-- ==== Sys2Proof/Word.lean ====
section
/-! DEFINITION. The plainest values of the part: a byte, the largest 32-bit figure, saturation, and a bank of a fixed
number of like objects numbered from 1. -/

namespace Sys2Proof

/-- One byte of a line (R201). -/
abbrev Byte := BitVec 8

/-- The largest value of a 32-bit figure (R2). -/
def max32 : Nat := 4294967295

/-- A saturating figure holds its largest value instead of exceeding it (R2). -/
def sat32 (n : Nat) : Nat := min n max32

/-- `n` like objects numbered 1 to `n`, as 00_scope numbers points, tanks, zones and the rest. A list with its length
keeps the kernel's evaluation plain. -/
structure Bank (α : Type) (n : Nat) where
  items : List α
  size : items.length = n
deriving DecidableEq, Repr

/-- `n` copies of one object. -/
def Bank.fill (n : Nat) {α : Type} (a : α) : Bank α n := ⟨List.replicate n a, by simp⟩

/-- Object number `k`, if there is one. -/
def Bank.get? {α : Type} {n : Nat} (b : Bank α n) (k : Nat) : Option α :=
  match k with
  | 0 => none
  | k + 1 => b.items[k]?

/-- Object number `k`, or `d` where the bank has no such number. -/
def Bank.getD {α : Type} {n : Nat} (b : Bank α n) (k : Nat) (d : α) : α := (b.get? k).getD d

/-- The bank with object number `k` replaced; a number the bank does not have changes nothing. -/
def Bank.set {α : Type} {n : Nat} (b : Bank α n) (k : Nat) (a : α) : Bank α n :=
  match k with
  | 0 => b
  | k + 1 => ⟨b.items.set k a, by simp [b.size]⟩

/-- The bank with every object changed by `f`. -/
def Bank.map {α β : Type} {n : Nat} (f : α → β) (b : Bank α n) : Bank β n := ⟨b.items.map f, by simp [b.size]⟩

/-- The bank with every object changed by `f`, which also reads the object's number. -/
def Bank.mapNumbered {α β : Type} {n : Nat} (f : Nat → α → β) (b : Bank α n) : Bank β n :=
  ⟨b.items.mapIdx fun i a => f (i + 1) a, by simp [b.size]⟩

/-- The numbers 1 to `n`, the order in which the part takes like objects. -/
def numbers (n : Nat) : List Nat := (List.range n).map (· + 1)

end Sys2Proof
end

