-- ==== Sys2Proof/Types.lean ====
section
/-! DEFINITION. The names and records of spec/: modes and states as inductives, the settings of every object, the log
record, the in-flight entry, and the retained memory that holds them (R192). The record types that only the running
part holds are in Machine/State.lean. -/

namespace Sys2Proof

/-! ## Ports and roles (09) -/

/-- The three master ports. -/
inductive PortId where
  | a | b | c
deriving DecidableEq, Repr

/-- A set of the five roles (R181). -/
structure RoleSet where
  dispatch : Bool := false
  maintenance : Bool := false
  stock : Bool := false
  safety : Bool := false
  supervisor : Bool := false
deriving DecidableEq, Repr

/-- The reply statuses of R180. -/
inductive Status where
  | ok | role | busy | state | range | full | unknown | stopped | barred | format
deriving DecidableEq, Repr

/-! ## Products and tanks (02) -/

/-- The six product classes of 2.1. -/
inductive ProductClass where
  | fuel | engineOil | hydraulic | transmission | coolant | grease
deriving DecidableEq, Repr

/-- A product (R19): `alpha` in parts per million per °C. -/
structure Product where
  configured : Bool
  cls : ProductClass
  alpha : Nat
deriving DecidableEq, Repr

/-- One row of a strap table: level in mm, gross volume in cL (1.5). -/
structure StrapRow where
  level : Nat
  vol : Nat
deriving DecidableEq, Repr

/-- The three temperature flags of R5. -/
structure TempFlags where
  clamped : Bool := false
  held : Bool := false
  uncomp : Bool := false
deriving DecidableEq, Repr

/-- Why a tank is out of service (R20). -/
inductive TankReason where
  | configuredOut | unconfigured | damaged
deriving DecidableEq, Repr

/-- Service status of a tank (R20). -/
inductive TankStatus where
  | inService
  | out (reason : TankReason)
deriving DecidableEq, Repr

/-- The settings of a tank, in the order of the table of 2.2. Probe address 0 is none (R203). Timers in s. -/
structure TankSettings where
  product : Nat
  zone : Nat
  probe : Nat
  capacity : Nat
  highLimit : Nat
  lowCutoff : Nat
  gaugeSilence : Nat
  pumpStart : Nat
  runOn : Nat
  settle : Nat
  windowBase : Nat
  windowPerMille : Nat
  varianceBase : Nat
  variancePerMille : Nat
  trendLimit : Nat
deriving DecidableEq, Repr

/-- What retained memory keeps of a tank (R192). -/
structure TankKept where
  settings : TankSettings
  status : TankStatus
  live : List StrapRow
  book : Int
  opening : Int
  receipts : Nat
  dispensed : Nat
  trend : List Int
deriving DecidableEq, Repr

/-! ## Points (03) -/

/-- The settings of a point, in the order of the table of 3.1. Island 0 is none (R203). -/
structure PointSettings where
  island : Nat
  zone : Nat
  tank : Nat
  k100 : Nat
  maxFlow : Nat
  minDispense : Nat
  maxDispense : Nat
  slowdown : Nat
  lubePreset : Nat
  authTimeout : Nat
  noFlow : Nat
  holdLimit : Nat
  quietTime : Nat
  passingAllowance : Nat
deriving DecidableEq, Repr

/-- Why a point is out of service (3.1). -/
inductive PointReason where
  | configuredOut | unconfigured | damaged | passing
deriving DecidableEq, Repr

/-- What retained memory keeps of a point (R192). `reason` is present while the point is OUT_OF_SERVICE. -/
structure PointKept where
  settings : PointSettings
  inService : Bool
  reason : Option PointReason
  passing : Bool
deriving DecidableEq, Repr

/-- The states of 3.2. -/
inductive PointState where
  | outOfService | idle | authorized | starting | flowing | held | closing | ended
deriving DecidableEq, Repr

/-- End codes of dispenses (R70) and deliveries (R134), R205. -/
inductive EndCode where
  | preset | hung | noFlow | holdExpired | tankLow | pumpFault | closed | empty | ullage | tankHigh | overfill
  | shutdown | aborted | powerLost
deriving DecidableEq, Repr

/-- The term that gave a preset (R53). -/
inductive LimitReason where
  | request | capacity | serviceHold | tank | pointMax
deriving DecidableEq, Repr

/-- Who a grant came from (3.3). -/
inductive Origin where
  | visit
  | port (p : PortId)
deriving DecidableEq, Repr

/-! ## Accounts (05) -/

/-- The machine classes of 5.1. -/
inductive AccountClass where
  | haul | loader | dozer | grader | drill | water | service | light
deriving DecidableEq, Repr

/-- Where an account's hour readings come from (5.1). -/
inductive HourSource where
  | none | tag | keypad
deriving DecidableEq, Repr

/-- The account states of R101 but VACANT: a VACANT account holds nothing and is absent from the account list. -/
inductive AccountState where
  | active | barred | damaged
deriving DecidableEq, Repr

/-- The state of a service entry (5.5). -/
inductive ServiceState where
  | ok | due | overdue
deriving DecidableEq, Repr

/-- A service entry (5.5): `last` is the life hours at last service. -/
structure ServiceEntry where
  cls : ProductClass
  interval : Nat
  last : Nat
  state : ServiceState
deriving DecidableEq, Repr

/-- The five lube totals of an account. -/
structure LubeTotals where
  engineOil : Nat := 0
  hydraulic : Nat := 0
  transmission : Nat := 0
  coolant : Nat := 0
  grease : Nat := 0
deriving DecidableEq, Repr

/-- An account record (5.1). The tag identity is eight bytes. -/
structure Account where
  state : AccountState
  tag : BitVec 64
  cls : AccountClass
  capacity : Nat
  hourSource : HourSource
  hoursRequired : Bool
  rollover : Option Nat
  meter : Nat
  life : Nat
  lastTime : Option Nat
  pending : Nat
  fuelTotal : Nat
  lube : LubeTotals
  band : Option (Nat × Nat)
  lastRate : Option Nat
  limp : Option Nat
  grace : Nat
  entries : List ServiceEntry
  carried : Option Nat
deriving DecidableEq, Repr

/-- Why a reading is refused (R14, R15). -/
inductive HoursRefusal where
  | range | regression | jump
deriving DecidableEq, Repr

/-! ## Islands (04), stations (06), zones (07): what is retained -/

/-- Retained settings of an island (4.1). -/
structure IslandKept where
  configured : Bool
  idleTime : Nat
deriving DecidableEq, Repr

/-- Retained settings of a station (6.1). Probe address 0 is none. -/
structure StationKept where
  configured : Bool
  zone : Nat
  k100 : Nat
  probe : Nat
  noFlow : Nat
deriving DecidableEq, Repr

/-- The states of a station (6.2). -/
inductive StationState where
  | idle | filling | paused | settling
deriving DecidableEq, Repr

/-- Retained settings of a zone (7.1). -/
structure ZoneKept where
  configured : Bool
  confirmTime : Nat
deriving DecidableEq, Repr

/-! ## Log records (08, R205) -/

/-- The fields of a DISPENSE record (R73). -/
structure DispenseRec where
  point : Nat
  tank : Nat
  product : Nat
  account : Option Nat
  origin : Origin
  preset : Nat
  limit : LimitReason
  service : Bool
  bayUse : Bool
  granted : Nat
  started : Nat
  ended : Nat
  endCode : EndCode
  k100 : Nat
  pulses : Nat
  gross : Nat
  net : Nat
  temp : Int
  flags : TempFlags
  factor : Nat
  passing : Bool
deriving DecidableEq, Repr

/-- The fields of a RECEIPT record (R135). -/
structure ReceiptRec where
  station : Nat
  tank : Nat
  product : Nat
  port : PortId
  opened : Nat
  ended : Nat
  endCode : EndCode
  passing : Bool
  k100 : Nat
  pulses : Nat
  gross : Nat
  net : Nat
  flags : TempFlags
  ullage : Int
  docket : Option Nat
  gaugeBefore : Nat
  gaugeAfter : Option Nat
  outflow : Int
  docketVariance : Option Int
  gaugeRise : Option Int
deriving DecidableEq, Repr

/-- The fields of a CLOSE record (R138). -/
structure CloseRec where
  tank : Nat
  product : Nat
  port : PortId
  opening : Int
  receipts : Nat
  dispensed : Nat
  book : Int
  gross : Nat
  net : Nat
  temp : Int
  flags : TempFlags
  variance : Int
  tolerance : Int
  trendSum : Int
  ringCount : Nat
  outOfTolerance : Bool
  loss : Bool
deriving DecidableEq, Repr

/-- What became of a reading (R105, R106): accepted with its delta, or refused with its reason. -/
inductive HourOutcome where
  | accepted (d : Nat)
  | refused (reason : HoursRefusal)
deriving DecidableEq, Repr

/-- The fields of a TRANSFER record (R117). -/
structure TransferRec where
  service : Nat
  machine : Nat
  quantity : Nat
  carriedAfter : Nat
  port : PortId
  reading : Option (Nat × HourOutcome)
  rate : Option Nat
deriving DecidableEq, Repr

/-- The fields of a SERVICE record (R113). -/
structure ServiceRec where
  account : Nat
  cls : ProductClass
  life : Nat
  since : Nat
  before : ServiceState
  port : PortId
deriving DecidableEq, Repr

/-- The kind fields of a record (8.2, R205). -/
inductive RecordBody where
  | dispense (r : DispenseRec)
  | receipt (r : ReceiptRec)
  | close (r : CloseRec)
  | transfer (r : TransferRec)
  | service (r : ServiceRec)
  | unreadable
deriving DecidableEq, Repr

/-- A completed record with its common fields (R167). -/
structure Record where
  ticket : Nat
  time : Nat
  clockUnset : Bool
  damaged : Bool
  body : RecordBody
deriving DecidableEq, Repr

/-! ## In-flight entries (R195) -/

/-- The image of an active dispense. -/
structure DispenseEntry where
  point : Nat
  tank : Nat
  product : Nat
  account : Option Nat
  origin : Origin
  preset : Nat
  limit : LimitReason
  service : Bool
  bayUse : Bool
  granted : Nat
  started : Nat
  k100 : Nat
  temp : Int
  flags : TempFlags
  factor : Nat
  pulses : Nat
  gross : Nat
  recorded : Nat
  state : PointState
  endCode : Option EndCode
  passing : Bool
deriving DecidableEq, Repr

/-- The image of a delivery in progress. -/
structure DeliveryEntry where
  station : Nat
  tank : Nat
  product : Nat
  docket : Option Nat
  ullage : Int
  k100 : Nat
  gaugeGross : Nat
  gaugeBefore : Nat
  dispensedAtOpen : Nat
  port : PortId
  opened : Nat
  pulses : Nat
  gross : Nat
  savedGross : Nat
  recorded : Nat
  flags : TempFlags
  state : StationState
  endCode : Option EndCode
  passing : Bool
deriving DecidableEq, Repr

/-- One in-flight entry; `unreadable` only as the contents found of an entry whose stored kind cannot be read (R199). -/
inductive Entry where
  | dispense (e : DispenseEntry)
  | delivery (e : DeliveryEntry)
  | unreadable
deriving DecidableEq, Repr

/-! ## Retained memory (R192 to R197) -/

/-- The retained attach flag and cursor of a port (R192). -/
structure PortLog where
  attached : Bool
  cursor : Nat
deriving DecidableEq, Repr

/-- The log index (R192): the ticket of the oldest held record, the slots of the held records oldest first, and the
open mark of each in-flight position. With no record held, `oldest` is the ticket counter. -/
structure LogIndex where
  oldest : Nat
  slots : List Nat
  openMarks : Bank Bool 14
deriving DecidableEq, Repr

/-- The names of the retained objects, in the order of the table of R192. -/
inductive ObjKey where
  | roleTable
  | queueLengths
  | product (n : Nat)
  | zone (n : Nat)
  | tank (n : Nat)
  | point (n : Nat)
  | station (n : Nat)
  | island (n : Nat)
  | account (n : Nat)
  | logIndex
  | record (slot : Nat)
  | ticketCounter
  | portLog (n : Nat)
  | entry (n : Nat)
deriving DecidableEq, Repr

/-- The contents of every retained object (R192). Accounts that are VACANT and slots that hold no record are absent
from their lists, which rise strictly by number. DESIGN CHOICE: notes/assumptions/5.md. -/
structure Retained where
  roles : Bank RoleSet 3
  queueK : Bank Nat 3
  products : Bank Product 8
  zones : Bank ZoneKept 6
  tanks : Bank TankKept 8
  points : Bank PointKept 12
  stations : Bank StationKept 2
  islands : Bank IslandKept 4
  accounts : List (Nat × Account)
  index : LogIndex
  records : List (Nat × Record)
  ticket : Nat
  portLog : Bank PortLog 3
  entries : Bank (Option Entry) 14
deriving DecidableEq, Repr

/-- The format marker as a start reads it (R197). -/
inductive Marker where
  | present | erased | bad
deriving DecidableEq, Repr

/-- The group area (R193): applied or empty; marked neither; or complete and not applied, with its objects. -/
inductive GroupArea where
  | settled
  | incomplete
  | complete (keys : List ObjKey) (new : Retained)
deriving DecidableEq, Repr

/-- What becomes of one write group on the memory line (R193, R194): written through step 3, or a write fails twice in
step 1, in step 2 at the object after the first `n`, or in step 3. -/
inductive Fate where
  | written
  | failsStep1
  | failsStep2 (n : Nat)
  | failsStep3
deriving DecidableEq, Repr

/-- The external nonvolatile memory and its line: whether it answers, its marker, the contents stored, the objects
whose check word does not agree, the group area, and what becomes of the coming write groups (none listed: they
succeed). DESIGN CHOICE: notes/assumptions/5.md. -/
structure Memory where
  answers : Bool
  marker : Marker
  stored : Retained
  bad : List ObjKey
  area : GroupArea
  fates : List Fate
deriving DecidableEq, Repr

/-! ## Operands of commands -/

/-- Where an event of a port's link falls: at the port, and after or before the reply of the command then outstanding
there has begun to be sent (R178). DESIGN CHOICE: notes/assumptions/37.md. -/
structure LinkAt where
  port : PortId
  begun : Bool
deriving DecidableEq, Repr

/-- A byte as an island line carries it (R81): its eight data bits, its parity bit, and whether its stop bit is found. -/
structure LineByte where
  data : Byte
  parity : Bool
  stop : Bool
deriving DecidableEq, Repr

/-- A reading of a supervised line (7.2). -/
inductive Line where
  | dry | wet | opened | shorted
deriving DecidableEq, Repr

/-- What one SENSOR_SCAN reads: the six sump lines and the eight overfill lines (R143). -/
structure ScanReadings where
  sump : Bank Line 6
  overfill : Bank Line 8
deriving DecidableEq, Repr

/-- What a start that RESTART or CLEAR ALL makes finds changed outside the part: the strap patterns (R176), whether the
memory answers and how its marker reads (R197), and whether a power-fail warning cuts it after so many of its write
groups (R196). DESIGN CHOICE: notes/assumptions/12.md. -/
structure CommandStart where
  straps : Option (Bank Nat 3)
  memory : Option (Bool × Marker)
  cut : Option Nat
deriving DecidableEq, Repr

/-- What a start finds outside the part (R197): new strap patterns, another content or condition of the memory, whether
a power-fail warning cuts this start after so many of its write groups (R196), and, as `later`, what each start that
RESTART or CLEAR ALL makes after it finds, the next one first. DESIGN CHOICE: notes/assumptions/12.md. -/
structure StartFinds where
  straps : Option (Bank Nat 3)
  memory : Option Memory
  cut : Option Nat
  later : List CommandStart
deriving DecidableEq, Repr

/-- The state in which a power failure leaves the write group in progress (R193, R197). -/
inductive Torn where
  | none
  | incomplete
  | complete (keys : List ObjKey) (new : Retained) (inPlace : Nat)
deriving DecidableEq, Repr

/-- The arguments of ACCOUNT SET after the account number (R203). Class and hour source are the codes sent. -/
structure AccountArgs where
  tag : BitVec 64
  cls : Nat
  capacity : Nat
  hourSource : Nat
  hoursRequired : Bool
  replaced : Bool
  rollover : Option Nat
  band : Option (Nat × Nat)
  limp : Option Nat
  meter : Nat
deriving DecidableEq, Repr

/-- One entry of SET SERVICE (R112, R203): class code, interval, and the hours since service or "keep". -/
structure ServiceArgs where
  cls : Nat
  interval : Nat
  since : Option Nat
deriving DecidableEq, Repr

/-- The arguments of STATION SET after the station number (R203). -/
abbrev StationArgs := StationKept

end Sys2Proof
end

