-- ==== Sys2Proof/Config.lean ====
section
/-! DEFINITION. What the part fixes once and for all (fixed times and sizes of spec/), and the free values: the two
figures that spec/ does not state. -/

namespace Sys2Proof.Config

/-- Number of log slots (R164). -/
def slots : Nat := 4096
/-- Number of accounts (R101). -/
def accounts : Nat := 512
/-- Settling maximum of a delivery and its quiet time, in s (6.1). -/
def settlingMaximum : Nat := 60
def settlingQuiet : Nat := 5
/-- Closing maximum of a dispense, in s (3.1). -/
def closingMaximum : Nat := 15
/-- A rate window, in s (3.1). -/
def rateWindow : Nat := 1
/-- Silence time of a station's probe, in s (6.1). -/
def stationSilence : Nat := 30
/-- Poll times of an island line in ms: on a working line, and in FAULT (R82, R85). -/
def pollTime : Nat := 250
def faultPollTime : Nat := 2000
/-- The correction factor of a source with no last good temperature, whatever the product (R5, R6, and the worked case of
1.3). -/
def factorUncorrected : Nat := 10000000
/-- Pool of notice entries (R183). -/
def noticePool : Nat := 384
/-- Gross progress between the saves of a dispense and of a delivery, in cL (R62, R127). -/
def dispenseStep : Nat := 100
def deliveryStep : Nat := 10000

/-- FREE VALUE. The volume that level and water level of an OK sample give at a tank with no live strap table: R10 to
R12 read the live table and state no result without one (DESIGN CHOICE: notes/assumptions/4.md). -/
opaque freeVolume : Nat → BitVec 32

/-- FREE VALUE. ABOVE_TABLE after an OK sample at a tank with no live strap table (R11, DESIGN CHOICE:
notes/assumptions/4.md). -/
opaque freeAbove : Nat → Bool

end Sys2Proof.Config
end

