-- ==== Sys2Proof/Syntax.lean ====
section
/-! DEFINITION. The commands of the part, one constructor for each row of spec/opcode_table.json. A master's command
carries the port that sent it first, then its arguments in the order and with the codes of R203; an event carries the
number of the line it happened on and what the line reads. A link event says whether the reply of the command then
outstanding at the port has begun to be sent before it (R178). DESIGN CHOICE: notes/assumptions/37.md. -/

namespace Sys2Proof

/-- One command or event. -/
inductive Instr where
  -- any port (9.7)
  | readPoint (port : PortId) (point : Nat)
  | readTank (port : PortId) (tank option : Nat)
  | readStation (port : PortId) (station : Nat)
  | readAccount (port : PortId) (account : Nat)
  | findTag (port : PortId) (tag : BitVec 64)
  | readZone (port : PortId) (zone : Nat)
  | readIsland (port : PortId) (island : Nat)
  | readPort (port : PortId) (named : Nat)
  | collectNotices (port : PortId) (n : Nat)
  | collectRecords (port : PortId) (n : Nat)
  -- DISPATCH and MAINTENANCE
  | authorize (port : PortId) (point account preset : Nat) (service bayUse : Bool)
  | cancel (port : PortId) (point : Nat)
  | hold (port : PortId) (point : Nat)
  | resume (port : PortId) (point : Nat)
  | abort (port : PortId) (point : Nat)
  | pointService (port : PortId) (point direction : Nat)
  | accountSet (port : PortId) (account : Nat) (args : AccountArgs)
  | accountBar (port : PortId) (account : Nat)
  | accountUnbar (port : PortId) (account : Nat)
  | vacate (port : PortId) (account : Nat)
  | enterHours (port : PortId) (account reading : Nat)
  | fieldTransfer (port : PortId) (service machine quantity : Nat) (reading : Option Nat)
  | resetPump (port : PortId) (tank : Nat)
  | setService (port : PortId) (account grace : Nat) (entries : List ServiceArgs)
  | serviceDone (port : PortId) (account cls : Nat)
  -- STOCK
  | productSet (port : PortId) (product cls alpha : Nat)
  | tankSet (port : PortId) (tank : Nat) (settings : TankSettings) (inService : Bool) (opening : Nat)
  | stageStrap (port : PortId) (tank start count : Nat) (rows : List StrapRow)
  | applyStrap (port : PortId) (tank count : Nat)
  | openDelivery (port : PortId) (station tank : Nat) (docket : Option Nat)
  | closeDelivery (port : PortId) (station : Nat) (abort : Bool)
  | closeStock (port : PortId) (tank : Nat)
  -- SAFETY
  | stopZone (port : PortId) (zone : Nat)
  | releaseZone (port : PortId) (zone : Nat)
  | stopBay (port : PortId)
  | releaseBay (port : PortId)
  | bypass (port : PortId) (kind number duration : Nat)
  | endBypass (port : PortId) (kind number : Nat)
  -- SUPERVISOR
  | pointSet (port : PortId) (point : Nat) (settings : PointSettings) (inService : Bool)
  | islandSet (port : PortId) (island : Nat) (configured : Bool) (idleTime : Nat)
  | zoneSet (port : PortId) (zone : Nat) (configured : Bool) (confirmTime : Nat)
  | stationSet (port : PortId) (station : Nat) (settings : StationArgs)
  | setRoles (port : PortId) (a b c : Byte)
  | setQueues (port : PortId) (a b c : Nat)
  | setClock (port : PortId) (time : Nat)
  | attach (port : PortId) (named : Nat)
  | detach (port : PortId) (named : Nat)
  | restart (port : PortId)
  | clearAll (port : PortId)
  -- link (R176 to R179)
  | frameReceived (link : LinkAt) (byte : Byte)
  | portGapTimeout (link : LinkAt)
  | badByte (link : LinkAt)
  | replySent (port : PortId)
  -- island lines and visits (04)
  | pollTimerExpiry (island : Nat)
  | idleReply (island : Nat)
  | tag (island : Nat) (identity : BitVec 64) (hours : Option Nat)
  | keys (island : Nat) (digits : List Nat)
  | unitFault (island code : Nat)
  | ack (island : Nat)
  | islandReplyBad (island : Nat) (bytes : List LineByte)
  | islandReplyTimeout (island : Nat)
  | islandReplyQuiet (island : Nat) (bytes : List LineByte)
  | islandClosedSwitch (island : Nat) (closed : Bool)
  | visitIdleTimeout (island : Nat)
  -- points (03)
  | nozzleLift (point : Nat)
  | nozzleHang (point : Nat)
  | meterPulse (point : Nat)
  | authorizationTimeout (point : Nat)
  | noFlowTimeout (point : Nat)
  | rateWindowExpiry (point : Nat)
  | holdTimerExpiry (point : Nat)
  | closingQuietExpiry (point : Nat)
  | closingMaximumExpiry (point : Nat)
  -- probes, tanks and pumps (02)
  | probeSample (address level water : Nat) (temp : Int) (statusOk : Bool)
  | probeReplyTimeout
  | gaugeSilenceExpiry (tank : Nat)
  | windowSettleExpiry (tank : Nat)
  | pumpConfirmOn (tank : Nat)
  | pumpConfirmLost (tank : Nat)
  | pumpStartTimeout (tank : Nat)
  | pumpRunOnExpiry (tank : Nat)
  -- receipt stations (06)
  | stationMeterPulse (station : Nat)
  | stationSilenceExpiry (station : Nat)
  | deliveryNoFlowExpiry (station : Nat)
  | settlingQuietExpiry (station : Nat)
  | settlingMaximumExpiry (station : Nat)
  -- spill monitor (07)
  | sensorScan (readings : ScanReadings)
  | zoneEmergencyStop (zone : Nat) (pressed : Bool)
  | bayEmergencyStop (pressed : Bool)
  | confirmTimerExpiry (zone : Nat)
  | bypassTimeExpiry (kind number : Nat)
  -- clock and power (09, 10)
  | bayClockSecond
  | powerFailWarning
  | powerFailWarningWithdrawn (finds : StartFinds)
  | powerOn (finds : StartFinds)
  | resetLineAsserted
  | resetLineReleased (finds : StartFinds)
  | portByteReceived (link : LinkAt) (byte : Byte)
  | powerFailure (torn : Torn)
deriving DecidableEq, Repr

end Sys2Proof
end

