-- ==== Sys2Proof/Decode.lean ====
section
/-! DEFINITION. The table gives none of its 99 rows any bits: no word spells a command. A command that comes to a port as
bytes is read by Machine/Operands.lean. -/

namespace Sys2Proof

/-- The command that a word spells by the table's bits: none, because no row has bits. -/
def decodeTableWord (_nbits _w : Nat) : Option Instr := none

end Sys2Proof
end

