-- ==== Sys2Proof/Machine/Replies.lean ====
section
/-! DEFINITION. What the masters see: notices (R183, R204), the results a reply carries (9.7 and the READ rules), and
the reply itself (R180). -/

namespace Sys2Proof.Machine

/-- The kinds of notice of 9.4. -/
inductive NoticeKind where
  | started | clockSet | bayStop | bayRunning | zoneSuspect | zoneShutdown | zoneNormal | zoneCause | bypassExpired
  | unauthorizedLift | grantExpired | grantDropped | dispenseAbnormal | pointPassing | pumpFault | gaugeStale
  | gaugeRestored | windowAbandoned | stationProbeFault | deliveryEnd | deliveryPassing | variance | lossTrend
  | unknownTag | tagBarred | visitEnded | islandLineFault | islandLineRestored | islandUnitFault | hoursRefused
  | burnAnomaly | serviceDue | serviceOverdue | logSpaceLow
deriving DecidableEq, Repr

/-- The subject kinds of R204. -/
inductive SubjectKind where
  | part | point | tank | station | account | island | zone | bay | port
deriving DecidableEq, Repr

/-- A notice (9.4): kind, bay time, subject and two details. -/
structure Notice where
  kind : NoticeKind
  time : Nat
  subject : SubjectKind
  number : Nat
  first : Int
  second : Int
deriving DecidableEq, Repr

/-! ## Records of the running part that a reply shows -/

/-- A grant (3.3). -/
structure Grant where
  account : Option Nat
  origin : Origin
  preset : Nat
  limit : LimitReason
  service : Bool
  bayUse : Bool
  granted : Nat
  visit : Option Nat
deriving DecidableEq, Repr

/-- Gauge states of R23. -/
inductive GaugeState where
  | fresh | stale | unknown
deriving DecidableEq, Repr

/-- A sample as taken (R21). -/
structure Sample where
  level : Nat
  water : Nat
  temp : Int
  ok : Bool
deriving DecidableEq, Repr

/-- Pump states of 2.7. -/
inductive PumpState where
  | off | starting | running | runOn | fault
deriving DecidableEq, Repr

/-- The movement window (2.8). `lastLoss` is the loss at the last checked sample, 0 if none (R42). -/
structure Window where
  isOpen : Bool
  gaugeAtOpen : Nat
  movedIn : Nat
  movedOut : Nat
  count : Nat
  settle : Option Nat
  lastLoss : Int
deriving DecidableEq, Repr

/-- Hour states of a visit (4.4). -/
inductive HourState where
  | notNeeded | pending | accepted | refused | notTaken
deriving DecidableEq, Repr

/-- Phases of a visit (4.4). -/
inductive Phase where
  | waitingHours | ready | ending
deriving DecidableEq, Repr

/-- An entry of a visit's dispense list: a point, and whether its dispense is active. -/
structure VisitDispense where
  point : Nat
  active : Bool
deriving DecidableEq, Repr

/-- The fields of a visit (4.4). -/
structure VisitFields where
  account : Nat
  opened : Nat
  hour : HourState
  reading : Option Nat
  delta : Option Nat
  attempts : Nat
  list : List VisitDispense
  phase : Phase
  idle : Option Nat
deriving DecidableEq, Repr

/-- Line states of R85. -/
inductive LineState where
  | unknown | online | fault
deriving DecidableEq, Repr

/-- Display codes of 4.3. -/
inductive DisplayCode where
  | ready | enterHours | hoursRefused | authorized | refused | wait | unknownTag | stopped | logFull | closed | goodbye
deriving DecidableEq, Repr

/-- A display: code and two-byte argument. -/
structure Display where
  code : DisplayCode
  arg : Nat
deriving DecidableEq, Repr

/-- The fields of a delivery (6.2) but its timers. Its ended time is absent while it is open: R135 takes it for the record
of the completion, at which the delivery ceases. F is computed afresh at each save and held by none of them, as 6.2 lists
none (R2, R9). DESIGN CHOICE: notes/assumptions/38.md. -/
structure DeliveryFields where
  tank : Nat
  docket : Option Nat
  ullage : Int
  k100 : Nat
  pulses : Nat
  gross : Nat
  savedGross : Nat
  recorded : Nat
  flags : TempFlags
  gaugeGross : Nat
  gaugeBefore : Nat
  dispensedAtOpen : Nat
  port : PortId
  opened : Nat
  ended : Option Nat
  endCode : Option EndCode
  passing : Bool
deriving DecidableEq, Repr

/-- Zone states of chapter 7. -/
inductive ZoneState where
  | normal | suspect | shutdown
deriving DecidableEq, Repr

/-- Cause kinds of R145 and R154. -/
inductive CauseKind where
  | sump | sensorFault | valvePassing | emergencyStop | overfill | excessFlow | unmeteredLoss | masterStop | startUp
  | secondZone | memoryFault | overfillLineFault
deriving DecidableEq, Repr

/-- An entry of a cause list (R146). -/
structure Cause where
  kind : CauseKind
  subject : Nat
  first : Nat
  active : Bool
deriving DecidableEq, Repr

/-- An input that can be bypassed (R160). -/
inductive BypassInput where
  | sump (zone : Nat)
  | overfill (tank : Nat)
deriving DecidableEq, Repr

/-- An entry of the bypass list (R160). -/
structure Bypass where
  input : BypassInput
  port : PortId
  remaining : Nat
deriving DecidableEq, Repr

/-! ## What the READ commands return -/

/-- READ POINT (R78). -/
structure PointView where
  state : PointState
  reason : Option PointReason
  passing : Bool
  settings : PointSettings
  inService : Bool
  lifted : Bool
  fast : Bool
  slow : Bool
  grant : Option Grant
  holdMaster : Bool
  holdSpill : Bool
  holdLeft : Option Nat
  pulses : Nat
  gross : Nat
  net : Nat
  recorded : Nat
  remaining : Int
  k100 : Nat
  temp : Int
  flags : TempFlags
  factor : Nat
  endCode : Option EndCode
  creep : Nat
  flow : Nat
  lastEnd : Option EndCode
  lastNet : Nat
  lastTicket : Nat
deriving DecidableEq, Repr

/-- READ TANK, record option (R47). -/
structure TankView where
  status : TankStatus
  settings : TankSettings
  gauge : GaugeState
  lastSample : Option Sample
  temp : Int
  flags : TempFlags
  above : Bool
  gross : Nat
  net : Nat
  book : Int
  opening : Int
  receipts : Nat
  dispensed : Nat
  basis : Int
  basisIsGauge : Bool
  available : Nat
  commitments : Nat
  committed : Nat
  pump : PumpState
  window : Window
deriving DecidableEq, Repr

/-- READ STATION (R139). The timer shown is the one that runs in the state. -/
structure StationView where
  settings : StationKept
  state : StationState
  temp : Int
  flags : TempFlags
  reportOk : Bool
  valve : Bool
  inlet : Bool
  delivery : Option DeliveryFields
  timerLeft : Option Nat
  maximumLeft : Option Nat
  lastTicket : Nat
  lastEnd : Option EndCode
  lastNet : Nat
deriving DecidableEq, Repr

/-- The four account states as a reply shows them (R101). -/
inductive AccountShown where
  | vacant | active | barred | damaged
deriving DecidableEq, Repr

/-- READ ACCOUNT of an account that is not VACANT (R121): its number and fields, service hold, grants and visit. -/
structure AccountView where
  number : Nat
  account : Account
  underHold : Bool
  points : List Nat
  island : Option Nat
deriving DecidableEq, Repr

/-- The bay part of READ ZONE (R162). -/
structure BayView where
  stopped : Bool
  causes : List Cause
  emergency : Bool
  relayClosed : Bool
  bypasses : List Bypass
deriving DecidableEq, Repr

/-- An overfill line as READ ZONE shows it: tank, reading (absent: unread), bypassed. -/
structure OverfillView where
  tank : Nat
  reading : Option Line
  bypassed : Bool
deriving DecidableEq, Repr

/-- The zone part of READ ZONE (R162). -/
structure ZoneView where
  settings : ZoneKept
  state : ZoneState
  confirmLeft : Option Nat
  scanned : Bool
  permit : Bool
  causes : List Cause
  more : Bool
  live : Bool
  sump : Option Line
  sumpBypassed : Bool
  emergency : Bool
  overfills : List OverfillView
deriving DecidableEq, Repr

/-- READ ISLAND (R99). -/
structure IslandView where
  settings : IslandKept
  line : LineState
  unitFaulted : Bool
  closed : Bool
  lastAck : Option Display
  displayPending : Bool
  visit : Option VisitFields
deriving DecidableEq, Repr

/-- READ PORT (R188). -/
structure PortView where
  rate : Nat
  roles : RoleSet
  length : Nat
  queued : Nat
  overflow : Bool
  attention : Bool
  framing : Bool
  overrun : Bool
  attached : Bool
  cursor : Nat
  skipped : Nat
  time : Nat
  clockSet : Bool
  free : Nat
deriving DecidableEq, Repr

/-- The results of a reply, by command (9.7). -/
inductive Result where
  | empty
  | point (v : PointView)
  | tank (v : TankView)
  | strap (rows : List StrapRow)
  | station (v : StationView)
  | accountState (s : AccountShown)
  | account (s : AccountShown) (v : AccountView)
  | tagFound (account : Nat) (s : AccountShown)
  | zone (v : ZoneView) (bay : BayView)
  | bay (v : BayView)
  | island (v : IslandView)
  | port (v : PortView)
  | notices (list : List Notice) (left : Nat) (overflow : Bool)
  | records (list : List Record) (cursor : Nat) (more : Bool) (skipped free : Nat)
  | preset (net : Nat) (limit : LimitReason)
  | newlyHeld
  | alreadyHeld
  | resumed
  | stillHeld
  | hours (o : HourOutcome)
  | transfer (ticket carried : Nat) (o : Option HourOutcome)
  | serviceStates (list : List ServiceState)
  | ticket (n : Nat)
  | rowIndex (n : Nat)
  | rowCount (n : Nat)
  | ullage (n : Int)
  | close (ticket : Nat) (variance tolerance trendSum : Int) (ring : List Int) (outOfTolerance loss : Bool)
  | zoneState (s : ZoneState)
  | bayStopped (stopped : Bool)
  | zoneStates (list : List ZoneState)
  | bypass (remaining : Nat) (reading : Option Line)
  | reading (r : Option Line)
  | cause (code subject : Nat)
  | roles (table : Bank RoleSet 3)
  | queues (lengths counts : Bank Nat 3)
  | clock (before : Nat) (wasSet : Bool)
  | cursor (n : Nat)
  | free (n : Nat)
deriving DecidableEq, Repr

/-- An owner's answer to a command: status and results (R180). -/
structure Answer where
  status : Status
  result : Result := .empty
deriving DecidableEq, Repr

/-- A reply as it begins to be sent (R179, R180). -/
structure Reply where
  code : Byte
  answer : Answer
  framing : Bool
  overrun : Bool
deriving DecidableEq, Repr

end Sys2Proof.Machine
end

