-- ==== Sys2Proof/Machine/State.lean ====
section
/-! DEFINITION. The state of the part: every piece of state spec/ names (INVENTORY.md lists them with their rules), the
waiting commands, and the state after reset, which is a cold start on blank memory at power-on (R197, R200). -/

namespace Sys2Proof.Machine

/-- Whether the part takes events (R196, R197). -/
inductive Mode where
  | running | powerFailHold | resetHeld | off
deriving DecidableEq, Repr

/-- The levels of the pins as they stand outside the part, whether or not it takes their changes; the straps as the last
start found them (R176). `coming` is what each coming start of RESTART or CLEAR ALL finds changed outside the part, the
next one first; nothing has changed for a start that it does not list. DESIGN CHOICE: notes/assumptions/12.md. -/
structure Env where
  nozzles : Bank Bool 12
  confirms : Bank Bool 8
  closed : Bank Bool 4
  zoneStops : Bank Bool 6
  bayStop : Bool
  straps : Bank Nat 3
  coming : List CommandStart
deriving DecidableEq, Repr

/-- A receiver's state with the bytes it has stored (R176). -/
inductive Receiver where
  | hunt
  | length
  | body (len : Nat) (got : List Byte)
  | check (body : List Byte) (first : Option Byte)
deriving DecidableEq, Repr

/-- A port's queue and link (R176 to R184). `waiting` is the outstanding command's answer, `tx` the last reply begun. -/
structure Port where
  queue : List Notice
  overflow : Bool
  framing : Bool
  overrun : Bool
  rx : Receiver
  gap : Bool
  rate : Nat
  sending : Bool
  waiting : Option (Byte × Answer)
  tx : Option Reply
deriving DecidableEq, Repr

/-- The bay clock (R186). -/
structure Clock where
  time : Nat
  set : Bool
deriving DecidableEq, Repr

/-- A temperature source (1.3): last good temperature and its clamped mark. -/
structure TempSource where
  lastGood : Option Int
  clamped : Bool
deriving DecidableEq, Repr

/-- A commitment entry (R27). -/
structure Commitment where
  point : Nat
  preset : Nat
  recorded : Nat
deriving DecidableEq, Repr

/-- A pump record (2.7). -/
structure Pump where
  state : PumpState
  startLeft : Option Nat
  runOnLeft : Option Nat
deriving DecidableEq, Repr

/-- A tank record (2.2). `factor` is the correction factor of its last OK sample (R2, R6), 10,000,000 after its start (1.3). -/
structure Tank extends TankKept where
  gauge : GaugeState
  lastSample : Option Sample
  temp : TempSource
  factor : Nat
  silence : Option Nat
  gross : Nat
  net : Nat
  above : Bool
  commitments : List Commitment
  pump : Pump
  window : Window
  staging : Bank StrapRow 32
deriving DecidableEq, Repr

/-- A point record (3.1). `slot` is the log slot reserved for the grant. `preset` is the preset of the dispense whose
figures the record shows, which READ POINT still needs in ENDED when the grant is gone (R78). -/
structure Point extends PointKept where
  state : PointState
  grant : Option Grant
  slot : Nat
  preset : Nat
  holdMaster : Bool
  holdSpill : Bool
  pulses : Nat
  gross : Nat
  net : Nat
  savedGross : Nat
  recorded : Nat
  k100 : Nat
  temp : Int
  flags : TempFlags
  factor : Nat
  started : Nat
  endCode : Option EndCode
  fast : Bool
  creep : Nat
  creepTold : Bool
  rateLeft : Option Nat
  ratePulses : Nat
  exceed : Nat
  flow : Nat
  authLeft : Option Nat
  noFlowLeft : Option Nat
  holdLeft : Option Nat
  quietLeft : Option Nat
  maxLeft : Option Nat
  lastEnd : Option EndCode
  lastNet : Nat
  lastTicket : Nat
deriving DecidableEq, Repr

/-- Why a visit ends (R97). -/
inductive VisitEnd where
  | idle | replaced | barred | hoursNotTaken
deriving DecidableEq, Repr

/-- A visit, with the reason an ENDING visit will end with (R95, R98) and its last refusal reason. -/
structure Visit extends VisitFields where
  endReason : Option VisitEnd
  lastRefusal : Option HoursRefusal
deriving DecidableEq, Repr

/-- An exchange in progress on an island line (R82). -/
inductive Exchange where
  | poll (fails : Nat)
  | display (d : Display)
deriving DecidableEq, Repr

/-- A message the part sends on an island line (R206). -/
inductive LineMessage where
  | poll
  | repeatLast
  | display (d : Display)
deriving DecidableEq, Repr

/-- An island record (4.1). `pollLeft` in ms. -/
structure Island extends IslandKept where
  line : LineState
  unitFaulted : Bool
  pollLeft : Option Nat
  pollDue : Bool
  exchange : Option Exchange
  pendingDisplay : Option Display
  lastAck : Option Display
  sent : Option LineMessage
  visit : Option Visit
deriving DecidableEq, Repr

/-- A delivery (6.2), with the correction factor of its last save (R2, R6), its log slot, its gross on entry into SETTLING
(R134) and whether its tank has taken an OK sample since (R135). DESIGN CHOICE: notes/assumptions/38.md. -/
structure Delivery extends DeliveryFields where
  factor : Nat
  noFlowLeft : Option Nat
  quietLeft : Option Nat
  maxLeft : Option Nat
  slot : Nat
  settlingFrom : Nat
  sampledSince : Bool
deriving DecidableEq, Repr

/-- A station record (6.1). -/
structure Station extends StationKept where
  temp : TempSource
  reportOk : Bool
  silence : Option Nat
  state : StationState
  delivery : Option Delivery
  lastTicket : Nat
  lastEnd : Option EndCode
  lastNet : Nat
deriving DecidableEq, Repr

/-- A zone record (7.1). `sump` absent is unread. -/
structure Zone extends ZoneKept where
  state : ZoneState
  causes : List Cause
  more : Bool
  confirmLeft : Option Nat
  scanned : Bool
  sump : Option Line
  emergency : Bool
deriving DecidableEq, Repr

/-- The bay record (R154). -/
structure Bay where
  stopped : Bool
  causes : List Cause
  emergency : Bool
deriving DecidableEq, Repr

/-- A held record in its slot (8.1). -/
structure Held where
  slot : Nat
  record : Record
deriving DecidableEq, Repr

/-- The log (08): held records oldest first, reserved slots, the ticket counter and the low-space warning. -/
structure Log where
  held : List Held
  reserved : List Nat
  ticket : Nat
  armed : Bool
deriving DecidableEq, Repr

/-- The whole machine. -/
structure State where
  mode : Mode
  unreadable : Bool
  env : Env
  roles : Bank RoleSet 3
  queueK : Bank Nat 3
  ports : Bank Port 3
  clock : Clock
  products : Bank Product 8
  tanks : Bank Tank 8
  points : Bank Point 12
  islands : Bank Island 4
  accounts : List (Nat × Account)
  stations : Bank Station 2
  probeLast : Nat
  zones : Bank Zone 6
  overfill : Bank (Option Line) 8
  bay : Bay
  bypasses : List Bypass
  log : Log
  portLog : Bank PortLog 3
  skipped : Bank Nat 3
  inflight : Bank (Option Entry) 14
  mem : Memory
  touched : List ObjKey
  freeCount : Nat
  pending : List Instr
deriving DecidableEq, Repr

/-- What stops the model. The part itself never stops: each of its refusals is a reply status. -/
inductive Fault where
  /-- Raised by an event that names a point, tank, station, island or zone the bay does not have (00_scope, Numbering
  of objects): no such line exists, so no such event can happen. Safe. -/
  | noSuchLine
deriving DecidableEq, Repr

/-- What the model refuses. -/
inductive Refusal where
  /-- Raised only by an arm of exec for a command that has no meaning yet; there is none. Safe. -/
  | notModelled (mnemonic : String)
deriving DecidableEq, Repr

/-! ## Values after start and after cold start -/

/-- A port holding every role (R181). -/
def allRoles : RoleSet := ⟨true, true, true, true, true⟩

/-- The role table after cold start (R181). -/
def coldRoles : Bank RoleSet 3 := ⟨[allRoles, {}, {}], rfl⟩

/-- The settings of a tank after cold start (2.2). -/
def coldTankSettings : TankSettings := ⟨1, 1, 0, 0, 0, 0, 30, 15, 20, 30, 5000, 5, 20000, 3, 50000⟩

/-- What memory keeps of a tank after cold start (R47). -/
def TankKept.cold : TankKept := ⟨coldTankSettings, .out .unconfigured, [], 0, 0, 0, 0, []⟩

/-- A closed window (2.8). -/
def Window.shut : Window := ⟨false, 0, 0, 0, 0, none, 0⟩

/-- A source with no last good temperature (R5). -/
def TempSource.absent : TempSource := ⟨none, false⟩

/-- A tank at start with the retained contents `k` (R47). -/
def Tank.atStart (k : TankKept) : Tank :=
  { toTankKept := k, gauge := .unknown, lastSample := none, temp := TempSource.absent, factor := Config.factorUncorrected
    silence := match k.status with
      | .inService | .out .configuredOut => some k.settings.gaugeSilence
      | _ => none
    gross := 0, net := 0, above := false, commitments := [], pump := ⟨.off, none, none⟩, window := Window.shut
    staging := Bank.fill 32 ⟨0, 0⟩ }

/-- A tank after cold start. -/
def Tank.cold : Tank := Tank.atStart TankKept.cold

/-- The settings of a point after cold start (3.1). -/
def coldPointSettings : PointSettings :=
  ⟨0, 1, 1, 5000, 100000, 100, 2000000, 2000, 2000, 120, 60, 300, 2, 50⟩

/-- What memory keeps of a point after cold start (R79). -/
def PointKept.cold : PointKept := ⟨coldPointSettings, false, some .unconfigured, false⟩

/-- A point at start with the retained contents `k`, in state `st` (R79). -/
def Point.atStart (k : PointKept) (st : PointState) : Point :=
  { toPointKept := k, state := st, grant := none, slot := 0, preset := 0, holdMaster := false, holdSpill := false, pulses := 0
    gross := 0, net := 0, savedGross := 0, recorded := 0, k100 := 0, temp := 0, flags := {}, factor := 0
    started := 0, endCode := none, fast := false, creep := 0, creepTold := false, rateLeft := none, ratePulses := 0
    exceed := 0, flow := 0, authLeft := none, noFlowLeft := none, holdLeft := none, quietLeft := none, maxLeft := none
    lastEnd := none, lastNet := 0, lastTicket := 0 }

/-- A point after cold start. -/
def Point.cold : Point := Point.atStart PointKept.cold .outOfService

/-- An unconfigured product (R47). -/
def Product.cold : Product := ⟨false, .fuel, 0⟩

/-- What memory keeps of an island after cold start (4.1). -/
def IslandKept.cold : IslandKept := ⟨false, 90⟩

/-- An island at start (R100). -/
def Island.atStart (k : IslandKept) : Island :=
  { toIslandKept := k, line := .unknown, unitFaulted := false
    pollLeft := if k.configured then some Config.pollTime else none
    pollDue := false, exchange := none, pendingDisplay := none, lastAck := none, sent := none, visit := none }

/-- An island after cold start. -/
def Island.cold : Island := Island.atStart IslandKept.cold

/-- What memory keeps of a station after cold start (6.1). -/
def StationKept.cold : StationKept := ⟨false, 1, 5000, 0, 180⟩

/-- A station at start (R140). -/
def Station.atStart (k : StationKept) : Station :=
  { toStationKept := k, temp := TempSource.absent, reportOk := false
    silence := if k.configured then some Config.stationSilence else none
    state := .idle, delivery := none, lastTicket := 0, lastEnd := none, lastNet := 0 }

/-- A station after cold start. -/
def Station.cold : Station := Station.atStart StationKept.cold

/-- What memory keeps of a zone after cold start (7.1). -/
def ZoneKept.cold : ZoneKept := ⟨false, 10⟩

/-- Zone `z` at start, at bay time 0: a configured zone stands in SHUTDOWN with START_UP (R163). -/
def Zone.atStart (z : Nat) (k : ZoneKept) : Zone :=
  { toZoneKept := k, state := .shutdown
    causes := if k.configured then [⟨.startUp, z, 0, false⟩] else []
    more := false, confirmLeft := none, scanned := false, sump := none, emergency := false }

/-- A zone after cold start. -/
def Zone.cold : Zone := Zone.atStart 1 ZoneKept.cold

/-- A port at start with an empty queue (R191). -/
def Port.atStart (rate : Nat) (tx : Option Reply) : Port :=
  { queue := [], overflow := false, framing := false, overrun := false, rx := .hunt, gap := false, rate := rate
    sending := false, waiting := none, tx := tx }

/-- STARTED, with the manner of start and the second detail of R191. -/
def startedNotice (manner second : Int) : Notice := ⟨.started, 0, .part, 0, manner, second⟩

/-- The retained contents after cold start (R192, R200). -/
def Retained.cold : Retained :=
  { roles := coldRoles, queueK := Bank.fill 3 4, products := Bank.fill 8 Product.cold
    zones := Bank.fill 6 ZoneKept.cold, tanks := Bank.fill 8 TankKept.cold, points := Bank.fill 12 PointKept.cold
    stations := Bank.fill 2 StationKept.cold, islands := Bank.fill 4 IslandKept.cold, accounts := []
    index := ⟨1, [], Bank.fill 14 false⟩, records := [], ticket := 1, portLog := Bank.fill 3 ⟨true, 1⟩
    entries := Bank.fill 14 none }

/-- Memory formatted with the cold-start values (R200). -/
def Memory.formatted : Memory := ⟨true, .present, Retained.cold, [], .settled, []⟩

/-- Every pin at rest: nozzles hung, confirms off, switches open, emergency inputs released, straps 000. -/
def Env.rest : Env :=
  ⟨Bank.fill 12 false, Bank.fill 8 false, Bank.fill 4 false, Bank.fill 6 false, false, Bank.fill 3 0, []⟩

/-- The part after a cold start on blank memory at power-on, every pin at rest (R197, R200; DESIGN CHOICE:
notes/assumptions/3.md). -/
def State.reset : State :=
  { mode := .running, unreadable := false, env := Env.rest, roles := coldRoles, queueK := Bank.fill 3 4
    ports := Bank.fill 3 { Port.atStart 9600 none with queue := [startedNotice 1 2] }
    clock := ⟨0, false⟩, products := Bank.fill 8 Product.cold, tanks := Bank.fill 8 Tank.cold
    points := Bank.fill 12 Point.cold, islands := Bank.fill 4 Island.cold, accounts := []
    stations := Bank.fill 2 Station.cold, probeLast := 0, zones := Bank.fill 6 Zone.cold, overfill := Bank.fill 8 none
    bay := ⟨false, [], false⟩, bypasses := [], log := ⟨[], [], 1, true⟩, portLog := Bank.fill 3 ⟨true, 1⟩
    skipped := Bank.fill 3 0, inflight := Bank.fill 14 none, mem := Memory.formatted, touched := [], freeCount := 0
    pending := [] }

end Sys2Proof.Machine
end

