-- ==== Sys2Proof/Machine/Codes.lean ====
section
/-! DEFINITION. The codes of the enumerated fields (R202 to R206), read and written. -/

namespace Sys2Proof.Machine

/-- Port numbers (R203). -/
def portNumber : PortId → Nat
  | .a => 1 | .b => 2 | .c => 3

/-- The port a code names (R203). -/
def portOfCode : Nat → Option PortId
  | 1 => some .a | 2 => some .b | 3 => some .c | _ => none

/-- Status codes (R202). -/
def statusCode : Status → Nat
  | .ok => 0 | .role => 1 | .busy => 2 | .state => 3 | .range => 4 | .full => 5 | .unknown => 6 | .stopped => 7
  | .barred => 8 | .format => 9

/-- Product class codes (R205). -/
def classCode : ProductClass → Nat
  | .fuel => 1 | .engineOil => 2 | .hydraulic => 3 | .transmission => 4 | .coolant => 5 | .grease => 6

/-- The product class a code names. -/
def classOfCode : Nat → Option ProductClass
  | 1 => some .fuel | 2 => some .engineOil | 3 => some .hydraulic | 4 => some .transmission | 5 => some .coolant
  | 6 => some .grease | _ => none

/-- The account class a code names (R203). -/
def accountClassOfCode : Nat → Option AccountClass
  | 1 => some .haul | 2 => some .loader | 3 => some .dozer | 4 => some .grader | 5 => some .drill | 6 => some .water
  | 7 => some .service | 8 => some .light | _ => none

/-- The hour source a code names (R203). -/
def hourSourceOfCode : Nat → Option HourSource
  | 0 => some .none | 1 => some .tag | 2 => some .keypad | _ => none

/-- End codes (R205). -/
def endCodeCode : EndCode → Nat
  | .preset => 1 | .hung => 2 | .noFlow => 3 | .holdExpired => 4 | .tankLow => 5 | .pumpFault => 6 | .closed => 7
  | .empty => 8 | .ullage => 9 | .tankHigh => 10 | .overfill => 11 | .shutdown => 12 | .aborted => 13
  | .powerLost => 14

/-- The abnormal end codes of R70 and R134. -/
def abnormal : EndCode → Bool
  | .preset | .hung | .closed | .empty | .ullage => false
  | .noFlow | .holdExpired | .tankLow | .pumpFault | .tankHigh | .overfill | .shutdown | .aborted | .powerLost => true

/-- Limit reason codes (R205). -/
def limitCode : LimitReason → Nat
  | .request => 1 | .capacity => 2 | .serviceHold => 3 | .tank => 4 | .pointMax => 5

/-- Origin codes (R205). -/
def originCode : Origin → Nat
  | .visit => 0
  | .port p => portNumber p

/-- Refusal reasons of readings (R95, R106). -/
def refusalCode : HoursRefusal → Nat
  | .range => 1 | .regression => 2 | .jump => 3

/-- Reading outcome codes (R205). -/
def outcomeCode : HourOutcome → Nat
  | .accepted _ => 0
  | .refused r => refusalCode r

/-- Service state codes (R205). -/
def serviceStateCode : ServiceState → Nat
  | .ok => 0 | .due => 1 | .overdue => 2

/-- Line readings (R161); absent is unread. -/
def lineCode : Option Line → Nat
  | some .dry => 0 | some .wet => 1 | some .opened => 2 | some .shorted => 3 | none => 4

/-- Cause codes (R145, R154). -/
def causeCode : CauseKind → Nat
  | .sump => 1 | .sensorFault => 2 | .valvePassing => 3 | .emergencyStop => 4 | .overfill => 5 | .excessFlow => 6
  | .unmeteredLoss => 7 | .masterStop => 8 | .startUp => 9 | .secondZone => 10 | .memoryFault => 11
  | .overfillLineFault => 12

/-- Reasons of VISIT_ENDED (R97). -/
def visitEndCode : VisitEnd → Nat
  | .idle => 1 | .replaced => 2 | .barred => 3 | .hoursNotTaken => 4

/-- Display codes (R206). -/
def displayNumber : DisplayCode → Nat
  | .ready => 1 | .enterHours => 2 | .hoursRefused => 3 | .authorized => 4 | .refused => 5 | .wait => 6
  | .unknownTag => 7 | .stopped => 8 | .logFull => 9 | .closed => 10 | .goodbye => 11

/-- Notice codes (9.4). -/
def noticeCode : NoticeKind → Nat
  | .started => 1 | .clockSet => 2 | .bayStop => 3 | .bayRunning => 4 | .zoneSuspect => 5 | .zoneShutdown => 6
  | .zoneNormal => 7 | .zoneCause => 8 | .bypassExpired => 9 | .unauthorizedLift => 10 | .grantExpired => 11
  | .grantDropped => 12 | .dispenseAbnormal => 13 | .pointPassing => 14 | .pumpFault => 15 | .gaugeStale => 16
  | .gaugeRestored => 17 | .windowAbandoned => 18 | .stationProbeFault => 19 | .deliveryEnd => 20
  | .deliveryPassing => 21 | .variance => 22 | .lossTrend => 23 | .unknownTag => 24 | .tagBarred => 25
  | .visitEnded => 26 | .islandLineFault => 27 | .islandLineRestored => 28 | .islandUnitFault => 29
  | .hoursRefused => 30 | .burnAnomaly => 31 | .serviceDue => 32 | .serviceOverdue => 33 | .logSpaceLow => 34

/-- Subject kind codes (R204). -/
def subjectCode : SubjectKind → Nat
  | .part => 0 | .point => 1 | .tank => 2 | .station => 3 | .account => 4 | .island => 5 | .zone => 6 | .bay => 7
  | .port => 8

/-- The role set of a byte (R203), and whether a set bit names a role that is not one of the five. -/
def rolesOfByte (b : Byte) : RoleSet :=
  ⟨b.getLsbD 0, b.getLsbD 1, b.getLsbD 2, b.getLsbD 3, b.getLsbD 4⟩

/-- Bits 5 to 7 of a role byte name no role (R182, R203). -/
def rolesBad (b : Byte) : Bool := b.getLsbD 5 || b.getLsbD 6 || b.getLsbD 7

/-- The bit rate that a strap pattern gives; the patterns not listed read as 9,600 (11.7). -/
def rateOfStraps : Nat → Nat
  | 1 => 19200 | 2 => 38400 | 3 => 57600 | 4 => 115200 | _ => 9600

end Sys2Proof.Machine
end

