-- ==== Sys2Proof/Machine/Quantities.lean ====
section
/-! DEFINITION. The computations of chapter 01, each from integer inputs. Every intermediate stays inside signed 64 bits
for inputs within R2 (R1), so natural numbers and integers carry them exactly. -/

namespace Sys2Proof.Machine

/-- Gross volume of a pulse total (R3). -/
def grossOf (pulses k100 : Nat) : Nat := sat32 (pulses * 10000 / k100)

/-- A sample's temperature clamped to −400 to 800 (R4). -/
def clampTemp (t : Int) : Int := max (-400) (min 800 t)

/-- The source after an OK sample (R4). -/
def sourceAfter (t : Int) : TempSource := ⟨some (clampTemp t), decide (t < -400 ∨ 800 < t)⟩

/-- The working temperature (R4). -/
def workingTemp (src : TempSource) : Int := src.lastGood.getD 150

/-- The three flags of a source that is, or is not, in hold (R5). -/
def sourceFlags (src : TempSource) (inHold : Bool) : TempFlags :=
  match src.lastGood with
  | some _ => ⟨src.clamped, inHold, false⟩
  | none => ⟨false, false, true⟩

/-- The correction factor (R6). -/
def factorOf (alpha : Nat) (t : Int) : Nat := (10000000 - (alpha : Int) * (t - 150)).toNat

/-- Gross to net, rounding half up (R7). -/
def netOf (gross factor : Nat) : Nat := sat32 ((gross * factor + 5000000) / 10000000)

/-- The union of two flag sets (R9). -/
def unionFlags (a b : TempFlags) : TempFlags :=
  ⟨a.clamped || b.clamped, a.held || b.held, a.uncomp || b.uncomp⟩

/-- The volume of a level by straight-line interpolation, clamped to the ends of the table (R10, R11). -/
def volumeAt : List StrapRow → Nat → Nat
  | [], _ => 0
  | [r], _ => r.vol
  | r :: q :: rest, level =>
    if level < r.level then r.vol
    else if level < q.level then r.vol + (q.vol - r.vol) * (level - r.level) / (q.level - r.level)
    else volumeAt (q :: rest) level

/-- Whether a level is at or above the last row's level (R11). -/
def aboveTable (rows : List StrapRow) (level : Nat) : Bool :=
  match rows.getLast? with
  | some r => decide (r.level ≤ level)
  | none => false

/-- Gauge gross of a level and a water level (R12). -/
def gaugeGrossOf (rows : List StrapRow) (level water : Nat) : Nat := sat32 (volumeAt rows level - volumeAt rows water)

/-- Flow of a one-second window (R13). -/
def flowOf (pulses k100 : Nat) : Nat := sat32 (pulses * 600000 / k100)

/-- Whether a flow exceeds the point's limit (R13). -/
def flowExceeds (flow maxFlow : Nat) : Bool := decide (maxFlow * 125 / 100 < flow)

/-- The delta of a reading `h` against meter reading `l` and rollover limit `m`, or its refusal (R14). -/
def hourDelta (l : Nat) (m : Option Nat) (h : Nat) : Except HoursRefusal Nat :=
  match m with
  | none => if 9999999 < h then .error .range else if l ≤ h then .ok (h - l) else .error .regression
  | some m =>
    if 9999999 < h ∨ m ≤ h then .error .range
    else if l ≤ h then .ok (h - l)
    else if m ≤ l + 10000 ∧ h < 10000 then .ok (h + m - l)
    else .error .regression

/-- The bound of R15 on a delta, for a time now and a time of last reading. -/
def hourBound (now last : Nat) : Nat := (now - last) / 360 + 10

/-- A reading judged by R14 and then R15: the plausibility check is made when the clock is set and the account has a
time of last reading. -/
def judgeReading (clock : Clock) (l : Nat) (m : Option Nat) (last : Option Nat) (h : Nat) : HourOutcome :=
  match hourDelta l m h with
  | .error r => .refused r
  | .ok d =>
    match clock.set, last with
    | true, some t => if hourBound clock.time t < d then .refused .jump else .accepted d
    | _, _ => .accepted d

/-- Burn rate (R16), for a delta above 0. -/
def burnRate (pending d : Nat) : Nat := pending / d

/-- Whether a rate lies outside a band (R16). -/
def outsideBand (band : Option (Nat × Nat)) (rate : Nat) : Bool :=
  match band with
  | some (lo, hi) => decide (rate < lo ∨ hi < rate)
  | none => false

/-- The loss of a sample against an open window (R17). -/
def windowLoss (w : Window) (net : Nat) : Int := (w.gaugeAtOpen : Int) + w.movedIn - w.movedOut - net

/-- The allowance of an open window (R17). -/
def windowAllowance (cfg : TankSettings) (w : Window) : Int :=
  (cfg.windowBase : Int) + ((w.movedIn + w.movedOut) * cfg.windowPerMille / 1000 : Nat)

/-- The tolerance of a stock close (R18). -/
def tolerance (k : TankKept) : Int :=
  (k.settings.varianceBase : Int) + ((k.receipts + k.dispensed) * k.settings.variancePerMille / 1000 : Nat)

/-- The trend ring after a new variance: up to eight entries, the oldest leaves (R18). -/
def pushTrend (ring : List Int) (v : Int) : List Int :=
  if ring.length < 8 then ring ++ [v] else ring.drop (ring.length - 7) ++ [v]

/-- The trend sum (R18). -/
def trendSum (ring : List Int) : Int := ring.foldl (· + ·) 0

/-- A timer counted down by one second of running time: at `some 0` it has run out, and its expiry may be taken.
DESIGN CHOICE: notes/assumptions/1.md. -/
def tickTimer (t : Option Nat) : Option Nat := t.map (· - 1)

end Sys2Proof.Machine
end

