-- ==== Sys2Proof/Machine/Ops.lean ====
section
/-! DEFINITION. The named operations every unit shares: reading and replacing one object of a bank, the accounts, the
notices and their queues (R183), and the log's slots and records (R164 to R171). -/

namespace Sys2Proof.Machine

/-! ## Objects by number -/

def State.tank (s : State) (t : Nat) : Tank := s.tanks.getD t Tank.cold
def State.setTank (s : State) (t : Nat) (k : Tank) : State := { s with tanks := s.tanks.set t k }
def State.modTank (s : State) (t : Nat) (f : Tank → Tank) : State := s.setTank t (f (s.tank t))

def State.point (s : State) (i : Nat) : Point := s.points.getD i Point.cold
def State.setPoint (s : State) (i : Nat) (p : Point) : State := { s with points := s.points.set i p }
def State.modPoint (s : State) (i : Nat) (f : Point → Point) : State := s.setPoint i (f (s.point i))

def State.island (s : State) (i : Nat) : Island := s.islands.getD i Island.cold
def State.setIsland (s : State) (i : Nat) (d : Island) : State := { s with islands := s.islands.set i d }
def State.modIsland (s : State) (i : Nat) (f : Island → Island) : State := s.setIsland i (f (s.island i))

def State.station (s : State) (n : Nat) : Station := s.stations.getD n Station.cold
def State.setStation (s : State) (n : Nat) (d : Station) : State := { s with stations := s.stations.set n d }
def State.modStation (s : State) (n : Nat) (f : Station → Station) : State := s.setStation n (f (s.station n))

def State.zone (s : State) (z : Nat) : Zone := s.zones.getD z Zone.cold
def State.setZone (s : State) (z : Nat) (d : Zone) : State := { s with zones := s.zones.set z d }
def State.modZone (s : State) (z : Nat) (f : Zone → Zone) : State := s.setZone z (f (s.zone z))

def State.port (s : State) (p : PortId) : Port := s.ports.getD (portNumber p) (Port.atStart 9600 none)
def State.setPort (s : State) (p : PortId) (d : Port) : State := { s with ports := s.ports.set (portNumber p) d }
def State.modPort (s : State) (p : PortId) (f : Port → Port) : State := s.setPort p (f (s.port p))

def State.product (s : State) (n : Nat) : Product := s.products.getD n Product.cold
def State.setProduct (s : State) (n : Nat) (d : Product) : State := { s with products := s.products.set n d }

def State.entry (s : State) (pos : Nat) : Option Entry := s.inflight.getD pos none
def State.setEntry (s : State) (pos : Nat) (e : Option Entry) : State := { s with inflight := s.inflight.set pos e }

/-- The role set of a port (R181). -/
def State.rolesOf (s : State) (p : PortId) : RoleSet := s.roles.getD (portNumber p) {}

/-- The queue length of a port: 32 × k (R183). -/
def State.queueLength (s : State) (p : PortId) : Nat := 32 * s.queueK.getD (portNumber p) 4

def State.logOf (s : State) (p : PortId) : PortLog := s.portLog.getD (portNumber p) ⟨true, 1⟩
def State.setLogOf (s : State) (p : PortId) (l : PortLog) : State := { s with portLog := s.portLog.set (portNumber p) l }
def State.skippedOf (s : State) (p : PortId) : Nat := s.skipped.getD (portNumber p) 0
def State.setSkipped (s : State) (p : PortId) (n : Nat) : State := { s with skipped := s.skipped.set (portNumber p) n }

/-- The bay time now (R186). -/
def State.now (s : State) : Nat := s.clock.time

/-- A retained object that the event in hand writes whether or not its figures changed (R193). -/
def State.touch (s : State) (k : ObjKey) : State := { s with touched := s.touched ++ [k] }

/-- Fold an action over the numbers 1 to `n`, in order. -/
def forEach (n : Nat) (f : Nat → State → State) (s : State) : State := (numbers n).foldl (fun s i => f i s) s

/-! ## Lists keyed by a rising number -/

def lookupNat {α : Type} (l : List (Nat × α)) (k : Nat) : Option α := (l.find? fun e => e.1 == k).map (·.2)

def insertNat {α : Type} : List (Nat × α) → Nat → α → List (Nat × α)
  | [], k, a => [(k, a)]
  | (j, b) :: rest, k, a =>
    if k < j then (k, a) :: (j, b) :: rest else if k = j then (k, a) :: rest else (j, b) :: insertNat rest k a

def removeNat {α : Type} (l : List (Nat × α)) (k : Nat) : List (Nat × α) := l.filter fun e => e.1 != k

/-- The account with a number, unless it is VACANT (R101). -/
def State.account? (s : State) (n : Nat) : Option Account := lookupNat s.accounts n
def State.setAccount (s : State) (n : Nat) (a : Account) : State := { s with accounts := insertNat s.accounts n a }
def State.modAccount (s : State) (n : Nat) (f : Account → Account) : State :=
  match s.account? n with
  | some a => s.setAccount n (f a)
  | none => s

/-- The lookup of R102: the ACTIVE or BARRED account that carries a tag identity, the lowest where more than one does.
DESIGN CHOICE: notes/assumptions/51.md. -/
def State.findTag? (s : State) (tag : BitVec 64) : Option (Nat × Account) :=
  s.accounts.find? fun e => e.2.tag == tag && e.2.state != .damaged

/-! ## Views of tanks and zones -/

/-- A configured tank is in service or CONFIGURED_OUT (R21). -/
def Tank.configured (k : Tank) : Bool :=
  match k.status with
  | .inService | .out .configuredOut => true
  | _ => false

def Tank.inServiceB (k : Tank) : Bool := decide (k.status = .inService)

/-- A tank's temperature flags: it is in hold while its gauge is STALE (R4, R5). -/
def Tank.flags (k : Tank) : TempFlags := sourceFlags k.temp (decide (k.gauge = .stale))

/-- A station's temperature flags: it is in hold while its latest report is FAULT (R4, R5). -/
def Station.flags (d : Station) : TempFlags := sourceFlags d.temp (!d.reportOk)

/-- The stock basis (R25). -/
def Tank.basis (k : Tank) : Int := if k.gauge = .fresh then k.net else k.book

/-- The outstanding quantity of a commitment entry (R27). -/
def Commitment.outstanding (c : Commitment) : Nat := c.preset - c.recorded

/-- The committed total (R27). -/
def Tank.committed (k : Tank) : Nat := k.commitments.foldl (fun n c => n + c.outstanding) 0

/-- The available quantity (R28, R20). -/
def Tank.available (k : Tank) : Nat :=
  if k.status = .inService then
    let basis : Int := if k.gauge = .fresh then min k.book k.net else k.book
    (basis - k.settings.lowCutoff - k.committed).toNat
  else 0

/-- The points a tank feeds, in order (R26). -/
def State.fed (s : State) (t : Nat) : List Nat := (numbers 12).filter fun i => (s.point i).settings.tank == t

/-- The zone of a point's tank. -/
def State.tankZoneOf (s : State) (i : Nat) : Nat := (s.tank (s.point i).settings.tank).settings.zone

def State.zoneState (s : State) (z : Nat) : ZoneState := (s.zone z).state

/-- A zone's permit (R142). -/
def State.permit (s : State) (z : Nat) : Bool :=
  (s.zone z).configured && decide ((s.zone z).state = .normal) && !s.bay.stopped

/-- Whether a point's zone and its tank's zone are both NORMAL (R69). -/
def State.pointZonesNormal (s : State) (i : Nat) : Bool :=
  decide (s.zoneState (s.point i).settings.zone = .normal) && decide (s.zoneState (s.tankZoneOf i) = .normal)

/-- The station whose delivery names a tank (R128). -/
def State.stationFor (s : State) (t : Nat) : Option Nat :=
  (numbers 2).find? fun n =>
    match (s.station n).delivery with
    | some d => d.tank == t
    | none => false

/-- A point that holds a grant fed by a tank (R44, R45, R137). -/
def State.tankGranted (s : State) (t : Nat) : Bool := (s.fed t).any fun i => (s.point i).grant.isSome

/-- The points that hold a grant on an account (R121). -/
def State.grantsOn (s : State) (a : Nat) : List Nat :=
  (numbers 12).filter fun i =>
    match (s.point i).grant with
    | some g => g.account == some a
    | none => false

/-- The island that holds a visit of an account (R121). -/
def State.visitOf (s : State) (a : Nat) : Option Nat :=
  (numbers 4).find? fun i =>
    match (s.island i).visit with
    | some v => v.account == a
    | none => false

/-! ## Field outputs (R50, R32, R128, R142, R154) -/

/-- Outputs are driven only while the part runs: the power-fail warning and the reset line turn them off (R196, R197).
-/
def State.driven (s : State) : Bool := decide (s.mode = .running)

/-- Slow stage of a point: open in FLOWING while both permits are given. -/
def State.slowOutput (s : State) (i : Nat) : Bool :=
  s.driven && decide ((s.point i).state = .flowing) && s.permit (s.point i).settings.zone && s.permit (s.tankZoneOf i)

/-- Fast stage of a point. -/
def State.fastOutput (s : State) (i : Nat) : Bool := s.slowOutput i && (s.point i).fast

/-- Pump output of a tank. -/
def State.pumpOutput (s : State) (t : Nat) : Bool :=
  s.driven && s.permit (s.tank t).settings.zone &&
    match (s.tank t).pump.state with
    | .starting | .running | .runOn => true
    | .off | .fault => false

/-- Valve of a station. -/
def State.stationOutput (s : State) (n : Nat) : Bool :=
  s.driven && decide ((s.station n).state = .filling) && s.permit (s.station n).zone &&
    match (s.station n).delivery with
    | some d => s.permit (s.tank d.tank).settings.zone
    | none => false

/-- Inlet valve of a tank. -/
def State.inletOutput (s : State) (t : Nat) : Bool :=
  match s.stationFor t with
  | some n => s.stationOutput n
  | none => false

/-- The bay stop relay: closed while the bay is RUNNING, open under the reset line and without power
(R154, R197, DEDUCED: notes/assumptions/13.md). -/
def State.relayClosed (s : State) : Bool :=
  !s.bay.stopped &&
    match s.mode with
    | .running | .powerFailHold => true
    | .resetHeld | .off => false

/-- The attention line of a port (R183). -/
def State.attention (s : State) (p : PortId) : Bool := !(s.port p).queue.isEmpty

/-! ## Notices (R181, R183) -/

/-- Who a notice is for (9.4). -/
inductive Audience where
  | everyPort
  | anyRole
  | attached
  | holding (r : RoleSet)
deriving DecidableEq, Repr

def meets (a b : RoleSet) : Bool :=
  (a.dispatch && b.dispatch) || (a.maintenance && b.maintenance) || (a.stock && b.stock) || (a.safety && b.safety) ||
    (a.supervisor && b.supervisor)

/-- Whether a port is in an audience at this moment. -/
def inAudience (s : State) (p : PortId) : Audience → Bool
  | .everyPort => true
  | .anyRole => meets (s.rolesOf p) allRoles
  | .attached => (s.logOf p).attached
  | .holding r => meets (s.rolesOf p) r

/-- The audience of each kind of notice (9.4). DELIVERY_END goes also to SAFETY for an abnormal end (R135). -/
def audienceOf : NoticeKind → Audience
  | .started => .everyPort
  | .clockSet | .bayStop | .bayRunning => .anyRole
  | .zoneSuspect | .zoneShutdown | .zoneNormal | .bypassExpired | .unauthorizedLift | .pointPassing =>
    .holding { safety := true, dispatch := true }
  | .zoneCause => .holding { safety := true }
  | .grantExpired | .grantDropped | .hoursRefused | .burnAnomaly | .serviceOverdue =>
    .holding { dispatch := true, maintenance := true }
  | .dispenseAbnormal | .unknownTag | .tagBarred | .visitEnded => .holding { dispatch := true }
  | .pumpFault | .gaugeStale | .gaugeRestored => .holding { dispatch := true, stock := true }
  | .windowAbandoned | .deliveryPassing | .lossTrend => .holding { stock := true, safety := true }
  | .stationProbeFault | .deliveryEnd | .variance => .holding { stock := true }
  | .islandLineFault | .islandLineRestored | .islandUnitFault => .holding { dispatch := true, supervisor := true }
  | .serviceDue => .holding { maintenance := true }
  | .logSpaceLow => .attached

/-- A notice offered to one port's queue: it joins the end, or is dropped with the overflow flag set (R183). -/
def offer (n : Notice) (p : PortId) (s : State) : State :=
  s.modPort p fun d =>
    if d.queue.length < s.queueLength p then { d with queue := d.queue ++ [n] } else { d with overflow := true }

/-- A notice raised to an audience: offered once to each port in it (R183). -/
def raiseTo (aud : Audience) (kind : NoticeKind) (subject : SubjectKind) (number : Nat) (first second : Int)
    (s : State) : State :=
  [PortId.a, PortId.b, PortId.c].foldl
    (fun s p => if inAudience s p aud then offer ⟨kind, s.now, subject, number, first, second⟩ p s else s) s

/-- A notice raised to the audience of its kind. -/
def raise (kind : NoticeKind) (subject : SubjectKind) (number : Nat) (first second : Int) (s : State) : State :=
  raiseTo (audienceOf kind) kind subject number first second s

/-! ## The log (08) -/

/-- The free count (R164). -/
def Log.free (l : Log) : Nat := Config.slots - (l.held.length + l.reserved.length)

/-- Whether a slot is neither held nor reserved. -/
def Log.slotFree (l : Log) (n : Nat) : Bool := !(l.held.any fun h => h.slot == n) && !l.reserved.contains n

/-- The free slot of lowest number from `n` on, among the next `fuel` (R165). -/
def Log.lowestFrom (l : Log) (n : Nat) : Nat → Nat
  | 0 => n
  | fuel + 1 => if l.slotFree n then n else Log.lowestFrom l (n + 1) fuel

/-- The free slot of lowest number (R165). Slots are numbered 0 to 4,095. DEDUCED: notes/assumptions/20.md. -/
def Log.lowest (l : Log) : Nat := l.lowestFrom 0 Config.slots

/-- The ticket that follows a ticket (R167). -/
def nextTicket (t : Nat) : Nat := if max32 ≤ t then 1 else t + 1

/-- The low-space warning judged after a change of the free count (R168). -/
def judgeSpace (s : State) : State :=
  if s.log.armed = true ∧ s.log.free < 256 then
    let s := raise .logSpaceLow .part 0 s.log.free s.log.held.length s
    { s with log := { s.log with armed := false } }
  else if s.log.armed = false ∧ 512 ≤ s.log.free then { s with log := { s.log with armed := true } }
  else s

/-- A slot reserved for a grant or a delivery (R165); the caller has found the free count above 0. -/
def reserveSlot (s : State) : State × Nat :=
  let n := s.log.lowest
  (judgeSpace { s with log := { s.log with reserved := s.log.reserved ++ [n] } }, n)

/-- A reservation that ends without a record (R165). -/
def releaseSlot (n : Nat) (s : State) : State :=
  judgeSpace { s with log := { s.log with reserved := s.log.reserved.erase n } }

/-- A record with the fields common to every record (R167). -/
def stamp (s : State) (damaged : Bool) (body : RecordBody) : Record :=
  ⟨s.log.ticket, s.now, !s.clock.set, damaged, body⟩

/-- A record completed into a slot: it joins the held sequence and the ticket counter moves on (R167). -/
def completeInto (slot : Nat) (damaged : Bool) (body : RecordBody) (s : State) : State :=
  { s with log := { s.log with
      held := s.log.held ++ [⟨slot, stamp s damaged body⟩]
      reserved := s.log.reserved.erase slot
      ticket := nextTicket s.log.ticket } }

/-- A record written directly into the free slot of lowest number (R166). -/
def writeDirect (body : RecordBody) (s : State) : State :=
  judgeSpace (completeInto s.log.lowest false body s)

/-- Whether ticket `a` is newer than ticket `b`, one just after the wrap being newer than one just before it (R174). -/
def newer (a b : Nat) : Bool := decide (a ≠ b ∧ (a + max32 - b) % max32 < 2147483648)

/-- How many held records a cursor has passed: the place of the record it names; all of them when it names the record
to come; else, where it falls before, between or after the tickets held, the oldest records that it is past (8.4, R170,
R174). DEDUCED: notes/assumptions/28.md. -/
def Log.passed (l : Log) (cursor : Nat) : Nat :=
  match l.held.findIdx? fun h => h.record.ticket == cursor with
  | some i => i
  | none =>
    if cursor = l.ticket then l.held.length else (l.held.takeWhile fun h => newer cursor h.record.ticket).length

/-- The ticket of the oldest held record, or the ticket counter when none is held (R172). -/
def Log.oldest (l : Log) : Nat :=
  match l.held with
  | h :: _ => h.record.ticket
  | [] => l.ticket

/-- How many records every attached cursor has passed (R169); with no port attached, none. -/
def State.passedByAll (s : State) : Nat :=
  let places := ([PortId.a, PortId.b, PortId.c].filter fun p => (s.logOf p).attached).map fun p =>
    s.log.passed (s.logOf p).cursor
  match places with
  | [] => 0
  | n :: rest => rest.foldl min n

/-- Removal judged (R169): the oldest records that every attached cursor has passed leave; a detached cursor that named
one of them moves to the oldest still held and its skipped count rises (R171). -/
def judgeRemoval (s : State) : State :=
  let n := s.passedByAll
  if n = 0 then s
  else
    let before := s.log
    let s := { s with log := { s.log with held := s.log.held.drop n } }
    let s := [PortId.a, PortId.b, PortId.c].foldl
      (fun s p =>
        let at0 := before.passed (s.logOf p).cursor
        if (s.logOf p).attached = false ∧ at0 < n then
          (s.setLogOf p { s.logOf p with cursor := s.log.oldest }).setSkipped p (sat32 (s.skippedOf p + (n - at0)))
        else s) s
    judgeSpace s

end Sys2Proof.Machine
end

