-- ==== Sys2Proof/Machine/Hours.lean ====
section
/-! DEFINITION. The Account Unit's shared operations (05): the evaluation of service entries, hour readings, burn rates,
and the saves of dispenses. The commands that use them are in Machine/Accounts.lean. -/

namespace Sys2Proof.Machine

/-- The state an entry's hours since service call for (R110). -/
def serviceStateFor (life grace : Nat) (e : ServiceEntry) : ServiceState :=
  let since := life - e.last
  if since < e.interval then .ok else if since < e.interval + grace then .due else .overdue

/-- Raise what a rise of one entry's state raises (R110). -/
def raiseService (n : Nat) (life : Nat) (e : ServiceEntry) (after : ServiceState) (s : State) : State :=
  match e.state, after with
  | .ok, .due => raise .serviceDue .account n (classCode e.cls) ((life - e.last : Nat) : Int) s
  | .ok, .overdue | .due, .overdue => raise .serviceOverdue .account n (classCode e.cls) ((life - e.last : Nat) : Int) s
  | _, _ => s

/-- An evaluation of an account's service entries (R110). DESIGN CHOICE: notes/assumptions/7.md. -/
def evaluateServices (n : Nat) (s : State) : State :=
  match s.account? n with
  | none => s
  | some a =>
    let s := s.setAccount n
      { a with entries := a.entries.map fun e => { e with state := serviceStateFor a.life a.grace e } }
    a.entries.foldl (fun s e => raiseService n a.life e (serviceStateFor a.life a.grace e) s) s

/-- Whether an account is under service hold (R111). -/
def Account.underHold (a : Account) : Bool := a.limp.isSome && a.entries.any fun e => e.state == .overdue

/-- A reading judged for an ACTIVE or BARRED account, and applied or refused (R105, R106). -/
def takeReading (n : Nat) (a : Account) (h : Nat) (s : State) : State × HourOutcome :=
  match judgeReading s.clock a.meter a.rollover a.lastTime h with
  | .accepted d =>
    let s := s.setAccount n
      { a with meter := h, life := sat32 (a.life + d), lastTime := if s.clock.set then some s.now else none }
    (evaluateServices n s, .accepted d)
  | .refused r => (raise .hoursRefused .account n (refusalCode r) h s, .refused r)

/-- A burn rate computed from pending fuel over `d`, above 0, with its band check (R16, R109). -/
def closeBurn (n d : Nat) (s : State) : State :=
  match s.account? n with
  | none => s
  | some a =>
    let rate := burnRate a.pending d
    let s := s.setAccount n { a with lastRate := some rate, pending := 0 }
    if outsideBand a.band rate then raise .burnAnomaly .account n rate d s else s

/-- What an account does at the end of a visit (R109). -/
def accountVisitEnded (n : Nat) (hour : HourState) (delta : Option Nat) (s : State) : State :=
  match hour, delta, s.account? n with
  | .accepted, some d, some a => if d = 0 ∨ a.cls = .service then s else closeBurn n d s
  | _, _, _ => s

/-- A lube total raised by an increment, saturating (R108). -/
def LubeTotals.add (l : LubeTotals) (c : ProductClass) (q : Nat) : LubeTotals :=
  match c with
  | .fuel => l
  | .engineOil => { l with engineOil := sat32 (l.engineOil + q) }
  | .hydraulic => { l with hydraulic := sat32 (l.hydraulic + q) }
  | .transmission => { l with transmission := sat32 (l.transmission + q) }
  | .coolant => { l with coolant := sat32 (l.coolant + q) }
  | .grease => { l with grease := sat32 (l.grease + q) }

/-- An account after a save of a dispense of class `c` (R108). -/
def Account.takeSave (a : Account) (c : ProductClass) (q : Nat) : Account :=
  match c with
  | .fuel =>
    let a := { a with fuelTotal := sat32 (a.fuelTotal + q) }
    if a.cls = .service then { a with carried := some (a.carried.getD 0 + q) }
    else { a with pending := sat32 (a.pending + q) }
  | _ => { a with lube := LubeTotals.add a.lube c q }

/-- A save handed to an account; a DAMAGED account takes none (R108, R122). -/
def accountSave (n : Nat) (c : ProductClass) (q : Nat) (s : State) : State :=
  s.modAccount n fun a => if a.state = .damaged then a else Account.takeSave a c q

/-- A service-flagged lube dispense of class `c` completed with a net above 0 (R114). -/
def serviceByDispense (n : Nat) (c : ProductClass) (s : State) : State :=
  match s.account? n with
  | none => s
  | some a =>
    if a.state = .damaged ∨ (a.entries.any fun e => e.cls == c) = false then s
    else
      evaluateServices n (s.setAccount n
        { a with entries := a.entries.map fun e => if e.cls = c then { e with last := a.life } else e })

end Sys2Proof.Machine
end

