-- ==== Sys2Proof/Machine/Visits.lean ====
section
/-! DEFINITION. The Island Unit's shared operations (04): displays and exchanges on an island line, line states, and the
course and end of a visit. The commands that use them are in Machine/Islands.lean. -/

namespace Sys2Proof.Machine

/-- The line begins an exchange if it is free and one is due: the display first, then the poll (R82). -/
def lineService (i : Nat) (s : State) : State :=
  let d := s.island i
  match d.exchange, d.pendingDisplay with
  | some _, _ => s
  | none, some m =>
    s.setIsland i { d with exchange := some (.display m), pendingDisplay := none, sent := some (.display m) }
  | none, none =>
    if d.pollDue then s.setIsland i { d with exchange := some (.poll 0), pollDue := false, sent := some .poll } else s

/-- A display requested (R87): discarded in FAULT and on an unconfigured island, else pending, replacing an older one.
-/
def requestDisplay (i : Nat) (code : DisplayCode) (arg : Nat) (s : State) : State :=
  let d := s.island i
  if d.configured = false ∨ d.line = .fault then s
  else lineService i (s.setIsland i { d with pendingDisplay := some ⟨code, arg⟩ })

/-- The standing display of an island (R89), judged for a closed switch that reads `closed`. -/
def standingDisplay (d : Island) (closed : Bool) : Option Display :=
  if closed then some ⟨.closed, 0⟩
  else
    match d.visit with
    | none => none
    | some v =>
      match v.phase with
      | .waitingHours => some ⟨.enterHours, 3 - v.attempts⟩
      | .ready => some ⟨.ready, v.account⟩
      | .ending => none

/-- The standing display requested (R89, R90). -/
def requestStanding (i : Nat) (closed : Bool) (s : State) : State :=
  match standingDisplay (s.island i) closed with
  | some m => requestDisplay i m.code m.arg s
  | none => s

/-- The island closed switch as last read (4.1). -/
def State.closedSwitch (s : State) (i : Nat) : Bool := s.env.closed.getD i false

/-- Entry of a line into FAULT, or a further failure in it (R85), with the kind of the last failure and the display
code of a display failure. DEDUCED: notes/assumptions/24.md. -/
def lineFails (i : Nat) (kind code : Nat) (s : State) : State :=
  let d := s.island i
  let s := s.setIsland i
    { d with
      line := .fault, exchange := none, pendingDisplay := none, pollDue := false
      pollLeft := some Config.faultPollTime }
  if d.line = .fault then s else raise .islandLineFault .island i kind code s

/-- A good poll exchange reaches the line (R85): ONLINE, with the standing display requested on entry into it. The
exchange is still in progress, so the request only becomes pending. DESIGN CHOICE: notes/assumptions/40.md. -/
def lineOnline (i : Nat) (s : State) : State :=
  let d := s.island i
  let s := s.setIsland i { d with line := .online }
  match d.line with
  | .online => s
  | .unknown => requestStanding i (s.closedSwitch i) s
  | .fault => requestStanding i (s.closedSwitch i) (raise .islandLineRestored .island i 0 0 s)

/-- The end of a poll exchange (R82): the poll timer restarts and the line is free. -/
def endPoll (i : Nat) (s : State) : State :=
  let d := s.island i
  lineService i (s.setIsland i
    { d with
      exchange := none
      pollLeft := some (if d.line = .fault then Config.faultPollTime else Config.pollTime) })

/-- The two-byte argument of HOURS_REFUSED (R206). -/
def refusedArgument (r : HoursRefusal) (left : Nat) : Nat := refusalCode r * 256 + left

/-- Whether a dispense of a visit is active (R91). -/
def Visit.busy (v : Visit) : Bool := v.list.any fun e => e.active

/-- The display at the end of a visit (R97, step 3). `atTag` says that the island read the replacing tag. -/
def farewell (i : Nat) (v : Visit) (reason : VisitEnd) (atTag : Bool) (s : State) : State :=
  match reason, v.lastRefusal with
  | .replaced, _ => if atTag then s else requestDisplay i .goodbye v.account s
  | .hoursNotTaken, some r => requestDisplay i .hoursRefused (refusedArgument r 0) s
  | _, _ => requestDisplay i .goodbye v.account s

/-- The end of a visit (R97). -/
def endVisit (i : Nat) (reason : VisitEnd) (atTag : Bool) (s : State) : State :=
  match (s.island i).visit with
  | none => s
  | some v =>
    let s := s.modIsland i fun d => { d with visit := some { v with idle := none } }
    let s := accountVisitEnded v.account v.hour v.delta s
    let s := farewell i v reason atTag s
    let s := raise .visitEnded .island i (visitEndCode reason) v.account s
    s.modIsland i fun d => { d with visit := none }

/-- A refused reading of a visit (R95). -/
def visitRefused (i : Nat) (v : Visit) (required : Bool) (r : HoursRefusal) (s : State) : State :=
  let n := v.attempts + 1
  let v := { v with attempts := n, lastRefusal := some r }
  if n < 3 then
    let s := s.modIsland i fun d => { d with visit := some { v with hour := .refused } }
    requestDisplay i .hoursRefused (refusedArgument r (3 - n)) s
  else if required = false then
    let s := s.modIsland i fun d => { d with visit := some { v with hour := .notTaken, phase := .ready } }
    requestDisplay i .ready v.account s
  else if v.busy then
    s.modIsland i fun d =>
      { d with visit := some { v with
          hour := .notTaken, phase := .ending, idle := none, endReason := some .hoursNotTaken } }
  else
    endVisit i .hoursNotTaken false (s.modIsland i fun d => { d with visit := some { v with hour := .notTaken } })

/-- An accepted reading of a visit (R95). -/
def visitAccepted (i : Nat) (v : Visit) (h delta : Nat) (s : State) : State :=
  let s := s.modIsland i fun d =>
    { d with visit := some { v with
        hour := .accepted, reading := some h, delta := some delta
        phase := if v.phase = .waitingHours then .ready else v.phase } }
  requestDisplay i .ready v.account s

/-- A reading handed by a visit to the Account Unit, and the answer taken (R95). -/
def visitReading (i h : Nat) (s : State) : State :=
  match (s.island i).visit with
  | none => s
  | some v =>
    match s.account? v.account with
    | none => s
    | some a =>
      match takeReading v.account a h s with
      | (s, .accepted delta) => visitAccepted i v h delta s
      | (s, .refused r) => visitRefused i v a.hoursRequired r s

/-- Why a visit permits no grant at a lift (R94, R55): 2 for its phase or its line, 3 for a full list. DESIGN CHOICE:
notes/assumptions/41.md. -/
def permitRefusal (s : State) (d : Island) (v : Visit) : Option Nat :=
  let phaseOk := match v.phase with
    | .ready => true
    | .waitingHours => match s.account? v.account with
      | some a => !a.hoursRequired
      | none => false
    | .ending => false
  if phaseOk = false ∨ d.line = .fault then some 2 else if 4 ≤ v.list.length then some 3 else none

/-- A point joins the dispense list (R94, R96). -/
def visitGrant (i point : Nat) (s : State) : State :=
  match (s.island i).visit with
  | none => s
  | some v =>
    let s := s.modIsland i fun d =>
      { d with visit := some { v with list := v.list ++ [⟨point, true⟩], idle := none } }
    requestDisplay i .authorized point s

/-- A visit is told that a dispense of it has ended (R94, R96, R98): the entry is complete, and with no other active the
idle timer starts, or an ENDING visit ends. -/
def visitDispenseEnded (i point : Nat) (s : State) : State :=
  match (s.island i).visit with
  | none => s
  | some v =>
    let v := { v with list := v.list.map fun e => if e.point = point then { e with active := false } else e }
    let s := s.modIsland i fun d => { d with visit := some v }
    if v.busy then s
    else
      match v.phase, v.endReason with
      | .ending, some reason => endVisit i reason false s
      | _, _ => s.modIsland i fun d => { d with visit := some { v with idle := some d.idleTime } }

end Sys2Proof.Machine
end

