-- ==== Sys2Proof/Machine/Engine.lean ====
section
/-! DEFINITION. The shared operations of points and of the tanks and pumps that feed them (02 and 03): progress saves,
the low cutoff, the pump, the movement window, and the course of a dispense from grant to record. -/

namespace Sys2Proof.Machine

/-! ## Movement window (R38, R41) -/

/-- The window opens if it is closed and the gauge is FRESH (R38). -/
def openWindow (t : Nat) (s : State) : State :=
  let k := s.tank t
  if k.gauge = .fresh ∧ k.window.isOpen = false then
    s.setTank t { k with window := ⟨true, k.net, 0, 0, 0, none, 0⟩ }
  else s

/-- Whether a point counts as movement on its tank (R41). -/
def moving : PointState → Bool
  | .starting | .flowing | .held | .closing => true
  | _ => false

/-- Whether a delivery to the tank is FILLING or PAUSED (R41). -/
def State.deliveryMoves (s : State) (t : Nat) : Bool :=
  match s.stationFor t with
  | some n => decide ((s.station n).state = .filling ∨ (s.station n).state = .paused)
  | none => false

/-- The settle timer starts when movement on the tank has stopped (R41). -/
def settleReview (t : Nat) (s : State) : State :=
  let k := s.tank t
  if k.window.isOpen = true ∧ k.window.settle = none ∧ ((s.fed t).any fun i => moving (s.point i).state) = false ∧
      s.deliveryMoves t = false then
    s.setTank t { k with window := { k.window with settle := some k.settings.settle } }
  else s

/-- Movement returns: the settle timer stops (R41). -/
def stopSettle (t : Nat) (s : State) : State := s.modTank t fun k => { k with window := { k.window with settle := none } }

/-! ## Progress saves (R63, R29) -/

/-- The class of the product a point dispenses (3.1). -/
def State.pointClass (s : State) (i : Nat) : ProductClass :=
  (s.product (s.tank (s.point i).settings.tank).settings.product).cls

/-- What a tank takes from a dispense save (R29, steps 1 to 4). -/
def Tank.takeDispense (k : Tank) (point inc recorded : Nat) : Tank :=
  { k with
    book := k.book - inc
    dispensed := k.dispensed + inc
    commitments := k.commitments.map fun c => if c.point = point then { c with recorded := recorded } else c
    window := if k.window.isOpen then { k.window with movedOut := k.window.movedOut + inc } else k.window }

/-- The in-flight image of a point's dispense (R195). -/
def dispenseImage (i : Nat) (p : Point) (g : Grant) (product : Nat) : DispenseEntry :=
  { point := i, tank := p.settings.tank, product := product, account := g.account, origin := g.origin
    preset := g.preset, limit := g.limit, service := g.service, bayUse := g.bayUse, granted := g.granted
    started := p.started, k100 := p.k100, temp := p.temp, flags := p.flags, factor := p.factor, pulses := p.pulses
    gross := p.gross, recorded := p.recorded, state := p.state, endCode := p.endCode, passing := p.passing }

/-- A progress save without the evaluation of the low cutoff: tank, account and in-flight entry take the net increment
together (R63). -/
def saveCore (i : Nat) (s : State) : State :=
  match (s.point i).grant with
  | none => s
  | some g =>
    let p := s.point i
    let inc := p.net - p.recorded
    let p' := { p with savedGross := p.gross, recorded := p.net }
    let t := p.settings.tank
    let cls := s.pointClass i
    let s := s.setPoint i p'
    let s := s.modTank t fun k => Tank.takeDispense k i inc p'.recorded
    let s := match g.account with
      | some a => accountSave a cls inc s
      | none => s
    (s.setEntry i (some (.dispense (dispenseImage i p' g (s.tank t).settings.product)))).touch (.entry i)

/-! ## The pump (R32 to R37) -/

/-- Whether a tank's pump has a run request (R32). -/
def State.runRequest (s : State) (t : Nat) : Bool :=
  ((s.fed t).any fun i => decide ((s.point i).state = .starting ∨ (s.point i).state = .flowing)) &&
    decide ((s.tank t).status = .inService) && decide (s.zoneState (s.tank t).settings.zone = .normal) && !s.bay.stopped

def Tank.setPump (k : Tank) (p : PumpState) (start runOn : Option Nat) : Tank := { k with pump := ⟨p, start, runOn⟩ }

/-- What the pump does when the run request goes (R33, R34). -/
def pumpReview (t : Nat) (s : State) : State :=
  if s.runRequest t then s
  else
    let k := s.tank t
    match k.pump.state with
    | .starting => s.setTank t (k.setPump .off none none)
    | .running =>
      if k.settings.runOn = 0 then s.setTank t (k.setPump .off none none)
      else s.setTank t (k.setPump .runOn none (some k.settings.runOn))
    | .off | .runOn | .fault => s

/-! ## Closing (R70) and the low cutoff (R26) -/

/-- Entry into CLOSING with its progress save, the low cutoff left unevaluated (R70). DEDUCED:
notes/assumptions/16.md. -/
def closeCore (i : Nat) (code : EndCode) (s : State) : State :=
  let p := s.point i
  let s := s.setPoint i
    { p with
      state := .closing, fast := false, holdMaster := false, holdSpill := false, noFlowLeft := none, rateLeft := none
      ratePulses := 0, exceed := 0, holdLeft := none, quietLeft := some p.settings.quietTime
      maxLeft := some Config.closingMaximum, endCode := some code }
  saveCore i (pumpReview p.settings.tank s)

/-- An evaluation of the low cutoff (R26): at or below it, every FLOWING or HELD point of the tank closes TANK_LOW. -/
def evalLow (t : Nat) (s : State) : State :=
  if (s.tank t).basis ≤ (s.tank t).settings.lowCutoff then
    (s.fed t).foldl
      (fun s i => if (s.point i).state = .flowing ∨ (s.point i).state = .held then closeCore i .tankLow s else s) s
  else s

/-- The evaluation a dispense save makes on a tank whose gauge is not FRESH (R29, step 5). -/
def evalIfBook (t : Nat) (s : State) : State := if (s.tank t).gauge = .fresh then s else evalLow t s

/-- A progress save of a dispense (R63). -/
def save (i : Nat) (s : State) : State := evalIfBook (s.point i).settings.tank (saveCore i s)

/-- Entry into CLOSING (R70). -/
def enterClosing (i : Nat) (code : EndCode) (s : State) : State :=
  evalIfBook (s.point i).settings.tank (closeCore i code s)

/-! ## Starting and flowing (R60, R50) -/

/-- The remaining quantity (R62): the preset less the live net. -/
def Point.remaining (p : Point) : Int := (p.preset : Int) - p.net

/-- Entry into FLOWING (R60, R50). DEDUCED: notes/assumptions/17.md. -/
def enterFlowing (i : Nat) (s : State) : State :=
  let p := s.point i
  let t := p.settings.tank
  let s := s.setPoint i
    { p with
      state := .flowing, fast := decide ((p.settings.slowdown : Int) < p.remaining)
      noFlowLeft := some p.settings.noFlow, rateLeft := some Config.rateWindow, ratePulses := 0, exceed := 0 }
  openWindow t (evalLow t (save i s))

/-- A point in STARTING told that the pump is running (R60). -/
def tellRunning (i : Nat) (s : State) : State :=
  if (s.point i).state = .starting then
    if 0 < (s.point i).remaining then enterFlowing i s else enterClosing i .preset s
  else s

/-- The pump's confirm seen (R33): RUNNING, and every point in STARTING is told. -/
def pumpSeen (t : Nat) (s : State) : State :=
  let s := s.setTank t ((s.tank t).setPump .running none none)
  (s.fed t).foldl (fun s i => tellRunning i s) s

/-- The pump's answer to a run request in OFF (R33). -/
def pumpStart (t : Nat) (s : State) : State :=
  let k := s.tank t
  let s := s.setTank t (k.setPump .starting (some k.settings.pumpStart) none)
  if s.env.confirms.getD t false then pumpSeen t s else s

/-- The pump's answer to a point that enters STARTING (R33, R34, R36). -/
def requestPump (i : Nat) (s : State) : State :=
  let t := (s.point i).settings.tank
  let k := s.tank t
  match k.pump.state with
  | .fault => enterClosing i .pumpFault s
  | .off => if s.runRequest t then pumpStart t s else s
  | .starting => s
  | .running => tellRunning i s
  | .runOn => tellRunning i (s.setTank t (k.setPump .running none none))

/-- A pump fault told to the points whose state is in `told` (R33, R35), with its notice. DESIGN CHOICE:
notes/assumptions/40.md. DESIGN CHOICE: notes/assumptions/7.md. -/
def pumpFails (t : Nat) (told : PointState → Bool) (detail : Nat) (s : State) : State :=
  let s := s.setTank t ((s.tank t).setPump .fault none none)
  let s := (s.fed t).foldl (fun s i => if told (s.point i).state then enterClosing i .pumpFault s else s) s
  raise .pumpFault .tank t detail 0 s

/-- The pump stopped by its zone, by the bay or with its tank (R37). -/
def pumpStopped (t : Nat) (s : State) : State :=
  let k := s.tank t
  if k.pump.state = .fault then s else s.setTank t (k.setPump .off none none)

/-- Entry into STARTING (R60, R41). -/
def enterStarting (i : Nat) (s : State) : State :=
  let p := s.point i
  let s := s.setPoint i { p with state := .starting, creep := 0, creepTold := false, holdLeft := none }
  let s := stopSettle p.settings.tank s
  requestPump i (save i s)

/-- Entry into HELD (R66), its causes already in the set. -/
def enterHeld (i : Nat) (s : State) : State :=
  let p := s.point i
  let s := s.setPoint i
    { p with
      state := .held, fast := false, noFlowLeft := none, rateLeft := none, ratePulses := 0, exceed := 0
      holdLeft := some p.settings.holdLimit }
  save i (pumpReview p.settings.tank s)

/-- The hold cause set has changed in HELD: an empty set leaves for STARTING (R66). -/
def holdReview (i : Nat) (s : State) : State :=
  let p := s.point i
  if p.state = .held ∧ p.holdMaster = false ∧ p.holdSpill = false then enterStarting i s else s

/-! ## Grants (R51, R53, R57) -/

/-- A commitment list with an entry for a point, in order of point number (R27). -/
def insertCommitment : List Commitment → Commitment → List Commitment
  | [], c => [c]
  | d :: rest, c => if c.point < d.point then c :: d :: rest else d :: insertCommitment rest c

/-- The terms that apply to a new grant (R53). -/
def presetTerms (s : State) (i : Nat) (account : Option Account) (requested : Nat) : List (Nat × LimitReason) :=
  let cfg := (s.point i).settings
  let fuel := decide (s.pointClass i = .fuel)
  let request : Nat × LimitReason := match requested, fuel, account with
    | 0, true, some a => (a.capacity, .capacity)
    | 0, true, none => (cfg.maxDispense, .pointMax)
    | 0, false, _ => (cfg.lubePreset, .request)
    | n + 1, _, _ => (n + 1, .request)
  let ofAccount : List (Nat × LimitReason) := match fuel, account with
    | true, some a => if Account.underHold a then [(a.limp.getD 0, .serviceHold)] else [(a.capacity, .capacity)]
    | _, _ => []
  [((s.tank cfg.tank).available, .tank), (cfg.maxDispense, .pointMax), request] ++ ofAccount

/-- The terms in the order that settles a shared least value (R53). -/
def byPriority (l : List (Nat × LimitReason)) : List (Nat × LimitReason) :=
  [LimitReason.tank, .serviceHold, .capacity, .pointMax, .request].flatMap fun r => l.filter fun x => x.2 == r

/-- The least term of a list, the first of those that share it. -/
def leastTerm : List (Nat × LimitReason) → Nat × LimitReason
  | [] => (0, .request)
  | [x] => x
  | x :: rest => let y := leastTerm rest; if x.1 ≤ y.1 then x else y

/-- The preset of a new grant with its limit reason (R53). -/
def presetOf (s : State) (i : Nat) (account : Option Account) (requested : Nat) : Nat × LimitReason :=
  leastTerm (byPriority (presetTerms s i account requested))

/-- The taking of a grant (R51): the slot, the commitment entry, the grant. -/
def takeGrant (i : Nat) (g : Grant) (s : State) : State :=
  let r := reserveSlot s
  let s := r.1.modTank (r.1.point i).settings.tank fun k =>
    { k with commitments := insertCommitment k.commitments ⟨i, g.preset, 0⟩ }
  s.modPoint i fun p => { p with grant := some g, slot := r.2 }

/-- The dispense figures cleared: they read 0 in IDLE and AUTHORIZED (R78). DESIGN CHOICE: notes/assumptions/14.md. -/
def Point.cleared (p : Point) : Point :=
  { p with
    preset := 0, pulses := 0, gross := 0, net := 0, savedGross := 0, recorded := 0, k100 := 0, temp := 0, flags := {}
    factor := 0, started := 0, endCode := none }

def removeCommitment (i : Nat) (k : Tank) : Tank :=
  { k with commitments := k.commitments.filter fun c => c.point != i }

/-- A grant dropped in AUTHORIZED without a record (R57): the point goes to IDLE. -/
def dropGrant (i : Nat) (s : State) : State :=
  let p := s.point i
  let s := s.modTank p.settings.tank (removeCommitment i)
  let s := releaseSlot p.slot s
  s.modPoint i fun p => { p with state := .idle, grant := none, slot := 0, authLeft := none }

/-- The account of a grant as a notice shows it: 0 for bay use (R57, R58). -/
def grantAccount (p : Point) : Nat :=
  match p.grant with
  | some g => g.account.getD 0
  | none => 0

/-- A grant dropped by an event of R58, with its notice. -/
def dropFor (i detail : Nat) (s : State) : State :=
  let a := grantAccount (s.point i)
  raise .grantDropped .point i detail a (dropGrant i s)

/-- The start of a dispense (R59). -/
def startDispense (i : Nat) (s : State) : State :=
  let p := s.point i
  let k := s.tank p.settings.tank
  let temp := workingTemp k.temp
  let suspect := decide (s.zoneState p.settings.zone = .suspect ∨ s.zoneState k.settings.zone = .suspect)
  let preset := match p.grant with
    | some g => g.preset
    | none => 0
  let s := s.setPoint i
    { p with
      authLeft := none, preset := preset, k100 := p.settings.k100, temp := temp, flags := k.flags
      factor := factorOf (s.product k.settings.product).alpha temp, pulses := 0, gross := 0, net := 0, savedGross := 0
      recorded := 0, started := s.now, endCode := none, holdMaster := false, holdSpill := suspect }
  if suspect then enterHeld i s else enterStarting i s

/-! ## Passing and completion (R77, R73) -/

/-- A point takes reason PASSING (R77). -/
def takePassing (i : Nat) (s : State) : State :=
  let p := s.point i
  let s := s.setPoint i { p with state := .outOfService, inService := false, reason := some .passing }
  raise .pointPassing .point i p.creep p.settings.passingAllowance (s.touch (.point i))

/-- The passing mark set, and what it does at the point's state (R77). -/
def setPassing (i : Nat) (s : State) : State :=
  let s := (s.modPoint i fun p => { p with passing := true }).touch (.point i)
  match (s.point i).state, (s.point i).reason with
  | .idle, _ => takePassing i s
  | .authorized, _ => takePassing i (dropFor i 4 s)
  | .outOfService, some .configuredOut => takePassing i s
  | _, _ => s

/-- The record of a dispense at its end (R73). -/
def dispenseRecord (i : Nat) (p : Point) (g : Grant) (product now : Nat) (code : EndCode) : DispenseRec :=
  { point := i, tank := p.settings.tank, product := product, account := g.account, origin := g.origin
    preset := g.preset, limit := g.limit, service := g.service, bayUse := g.bayUse, granted := g.granted
    started := p.started, ended := now, endCode := code, k100 := p.k100, pulses := p.pulses, gross := p.gross
    net := p.recorded, temp := p.temp, flags := p.flags, factor := p.factor, passing := p.passing }

/-- The next state of a point at the end of CLOSING (R73, step 7), its last-dispense fields taken. -/
def pointEnded (i ticket : Nat) (code : EndCode) (s : State) : State :=
  let p := s.point i
  let p := { p with
    grant := none, slot := 0, quietLeft := none, maxLeft := none, lastEnd := some code, lastNet := p.recorded
    lastTicket := ticket }
  if s.env.nozzles.getD i false then s.setPoint i { p with state := .ended }
  else if p.passing then takePassing i (s.setPoint i p.cleared)
  else s.setPoint i { p.cleared with state := .idle }

/-- A dispense completed at the end of CLOSING (R73). -/
def completeDispense (i : Nat) (s : State) : State :=
  match (s.point i).grant with
  | none => s
  | some g =>
    let s := save i s
    let p := s.point i
    let t := p.settings.tank
    let code := p.endCode.getD .aborted
    let ticket := s.log.ticket
    let cls := s.pointClass i
    let s := completeInto p.slot false
      (.dispense (dispenseRecord i p g (s.tank t).settings.product s.now code)) s
    let s := (s.modTank t (removeCommitment i)).setEntry i none
    let s := match g.account, g.service, decide (cls = .fuel) with
      | some a, true, false => if 0 < p.recorded then serviceByDispense a cls s else s
      | _, _, _ => s
    let s := match g.visit with
      | some island => visitDispenseEnded island i s
      | none => s
    let s := if abnormal code then raise .dispenseAbnormal .point i (endCodeCode code) p.recorded s else s
    settleReview t (pointEnded i ticket code s)

/-! ## Answers to zones and the bay (R69, R75) -/

/-- A zone of the point leaves NORMAL for SUSPECT (R69). -/
def pointZoneLeft (i : Nat) (s : State) : State :=
  match (s.point i).state with
  | .starting | .flowing => enterHeld i (s.modPoint i fun p => { p with holdSpill := true })
  | .held => s.modPoint i fun p => { p with holdSpill := true }
  | _ => s

/-- A zone of the point is NORMAL again (R69); SPILL leaves only when both are. -/
def pointZoneNormal (i : Nat) (s : State) : State :=
  if s.pointZonesNormal i = true ∧ (s.point i).state = .held ∧ (s.point i).holdSpill = true then
    holdReview i (s.modPoint i fun p => { p with holdSpill := false })
  else s

/-- A zone of the point shuts down, or the bay stops (R75); `detail` is that of GRANT_DROPPED (R58). -/
def pointShutdown (i detail : Nat) (s : State) : State :=
  match (s.point i).state with
  | .starting | .flowing | .held => enterClosing i .shutdown s
  | .authorized => dropFor i detail s
  | _ => s

/-! ## Metering (R62, R76) -/

/-- A pulse counted into the dispense (R62, steps 1 to 3). -/
def countPulse (p : Point) : Point :=
  let pulses := sat32 (p.pulses + 1)
  let gross := grossOf pulses p.k100
  { p with pulses := pulses, gross := gross, net := netOf gross p.factor }

/-- The save a counted pulse makes at 100 cL of gross progress (R62, step 4). -/
def pulseSave (i : Nat) (s : State) : State :=
  let p := s.point i
  if p.savedGross + Config.dispenseStep ≤ p.gross then save i s else s

/-- What a counted pulse does further in FLOWING (R62). -/
def pulseFlowing (i : Nat) (s : State) : State :=
  let p := s.point i
  if p.state = .flowing then
    let p := { p with
      noFlowLeft := some p.settings.noFlow, ratePulses := sat32 (p.ratePulses + 1)
      fast := p.fast && decide ((p.settings.slowdown : Int) < p.remaining) }
    let s := s.setPoint i p
    if p.remaining ≤ 0 then enterClosing i .preset s else s
  else s

end Sys2Proof.Machine
end

