-- ==== Sys2Proof/Machine/Deliveries.lean ====
section
/-! DEFINITION. The Receipt Unit's shared operations (06): the saves of a delivery, its states and its completion, and its
answers to samples, zones, the bay and overfill. The commands that use them are in Machine/Receipts.lean. -/

namespace Sys2Proof.Machine

/-- The position of a station's in-flight entry (R195). -/
def stationEntry (n : Nat) : Nat := 12 + n

/-- What a tank takes from a delivery save (R30). -/
def Tank.takeReceipt (k : Tank) (inc : Nat) : Tank :=
  { k with
    book := k.book + inc
    receipts := k.receipts + inc
    window := if k.window.isOpen then { k.window with movedIn := k.window.movedIn + inc } else k.window }

/-- The in-flight image of a delivery (R195). -/
def deliveryImage (n : Nat) (st : StationState) (d : Delivery) (product : Nat) : DeliveryEntry :=
  { station := n, tank := d.tank, product := product, docket := d.docket, ullage := d.ullage, k100 := d.k100
    gaugeGross := d.gaugeGross, gaugeBefore := d.gaugeBefore, dispensedAtOpen := d.dispensedAtOpen, port := d.port
    opened := d.opened, pulses := d.pulses, gross := d.gross, savedGross := d.savedGross, recorded := d.recorded
    flags := d.flags, state := st, endCode := d.endCode, passing := d.passing }

/-- The correction factor of a save of a delivery made now (R6; R9, steps 1 and 2). -/
def deliveryFactor (s : State) (k : Station) (d : Delivery) : Nat :=
  factorOf (s.product (s.tank d.tank).settings.product).alpha (workingTemp k.temp)

/-- A progress save of a delivery (R9, R127): tank and in-flight entry take the increment together. -/
def stationSave (n : Nat) (s : State) : State :=
  let k := s.station n
  match k.delivery with
  | none => s
  | some d =>
    let factor := deliveryFactor s k d
    let inc := netOf (d.gross - d.savedGross) factor
    let d' := { d with
      factor := factor, recorded := sat32 (d.recorded + inc), savedGross := d.gross, flags := unionFlags d.flags k.flags }
    let s := s.setStation n { k with delivery := some d' }
    let s := s.modTank d.tank fun t => Tank.takeReceipt t inc
    (s.setEntry (stationEntry n)
      (some (.delivery (deliveryImage n k.state d' (s.tank d.tank).settings.product)))).touch (.entry (stationEntry n))

/-- Entry into FILLING (R126, R131, R38, R41). -/
def enterFilling (n : Nat) (s : State) : State :=
  let k := s.station n
  match k.delivery with
  | none => s
  | some d =>
    let s := s.setStation n
      { k with state := .filling, delivery := some { d with noFlowLeft := some k.noFlow } }
    let s := stationSave n s
    openWindow d.tank (stopSettle d.tank s)

/-- Entry into PAUSED (R131). -/
def enterPaused (n : Nat) (s : State) : State :=
  let k := s.station n
  match k.delivery with
  | none => s
  | some d => stationSave n (s.setStation n { k with state := .paused, delivery := some { d with noFlowLeft := none } })

/-- Entry into SETTLING (R134, R41). -/
def enterSettling (n : Nat) (code : EndCode) (s : State) : State :=
  let k := s.station n
  match k.delivery with
  | none => s
  | some d =>
    let s := s.setStation n
      { k with
        state := .settling
        delivery := some { d with
          noFlowLeft := none, endCode := some code, quietLeft := some Config.settlingQuiet
          maxLeft := some Config.settlingMaximum, settlingFrom := d.gross, sampledSince := false } }
    settleReview d.tank (stationSave n s)

/-- The gauge net after of a delivery (R135, step 2). -/
def gaugeAfter (k : Tank) (d : Delivery) : Option Nat :=
  if k.gauge = .fresh ∧ d.sampledSince = true then some k.net else none

/-- The record of a delivery at its end (R135, step 3). -/
def receiptRecord (n : Nat) (d : Delivery) (k : Tank) (now : Nat) (code : EndCode) : ReceiptRec :=
  let after := gaugeAfter k d
  { station := n, tank := d.tank, product := k.settings.product, port := d.port, opened := d.opened, ended := now
    endCode := code, passing := d.passing, k100 := d.k100, pulses := d.pulses, gross := d.gross, net := d.recorded
    flags := d.flags, ullage := d.ullage, docket := d.docket, gaugeBefore := d.gaugeBefore, gaugeAfter := after
    outflow := (k.dispensed : Int) - d.dispensedAtOpen
    docketVariance := d.docket.map fun q => (q : Int) - d.recorded
    gaugeRise := after.map fun g => (g : Int) - d.gaugeBefore }

/-- DELIVERY_END (R135, step 5): to STOCK, and to SAFETY too for an abnormal end code. -/
def raiseDeliveryEnd (n : Nat) (code : EndCode) (net : Nat) (s : State) : State :=
  let aud := if abnormal code then Audience.holding { stock := true, safety := true } else .holding { stock := true }
  raiseTo aud .deliveryEnd .station n (endCodeCode code) net s

/-- A delivery completed at the end of SETTLING (R135). -/
def completeDelivery (n : Nat) (s : State) : State :=
  let s := stationSave n s
  match (s.station n).delivery with
  | none => s
  | some d =>
    let k := s.tank d.tank
    let code := d.endCode.getD .aborted
    let ticket := s.log.ticket
    let s := completeInto d.slot false (.receipt (receiptRecord n d k s.now code)) s
    let s := s.setEntry (stationEntry n) none
    let s := s.modStation n fun c => { c with lastTicket := ticket, lastEnd := some code, lastNet := d.recorded }
    let s := raiseDeliveryEnd n code d.recorded s
    settleReview d.tank (s.modStation n fun c => { c with state := .idle, delivery := none })

/-- The tank hands an OK sample to its delivery (R22 step 8, R129, R135 step 2). A delivery that step 7 of the sample put
into SETTLING counts it as taken since, and one that it ends TANK_HIGH does not. DESIGN CHOICE:
notes/assumptions/43.md. -/
def deliverySample (t : Nat) (s : State) : State :=
  match s.stationFor t with
  | none => s
  | some n =>
    let k := s.station n
    match k.state, k.delivery with
    | .settling, some d => s.setStation n { k with delivery := some { d with sampledSince := true } }
    | .filling, some _ | .paused, some _ =>
      if (s.tank t).settings.highLimit ≤ (s.tank t).gross then enterSettling n .tankHigh s else s
    | _, _ => s

/-- A zone of the delivery leaves NORMAL for SUSPECT (R131). -/
def stationZoneLeft (n : Nat) (s : State) : State :=
  match (s.station n).state with
  | .filling => enterPaused n s
  | _ => s

/-- A zone of the delivery is NORMAL again (R131). -/
def stationZoneNormal (n : Nat) (s : State) : State :=
  let k := s.station n
  match k.state, k.delivery with
  | .paused, some d =>
    if s.zoneState k.zone = .normal ∧ s.zoneState (s.tank d.tank).settings.zone = .normal ∧ s.bay.stopped = false then
      enterFilling n s
    else s
  | _, _ => s

/-- A zone of the delivery shuts down, or the bay stops (R132). -/
def stationShutdown (n : Nat) (s : State) : State :=
  match (s.station n).state with
  | .filling | .paused => enterSettling n .shutdown s
  | _ => s

/-- The overfill of a tank told to its delivery (R132, R152). DEDUCED: notes/assumptions/32.md. -/
def deliveryOverfill (t : Nat) (s : State) : State :=
  match s.stationFor t with
  | none => s
  | some n =>
    let k := s.station n
    match k.state, k.delivery with
    | .filling, some _ | .paused, some _ => enterSettling n .overfill s
    | .settling, some d =>
      if d.endCode = some .shutdown then s.setStation n { k with delivery := some { d with endCode := some .overfill } }
      else s
    | _, _ => s

end Sys2Proof.Machine
end

