-- ==== Sys2Proof/Machine/Spill.lean ====
section
/-! DEFINITION. The Spill Monitor's shared operations (07): causes and their lists, the zone states and the bay, the
supervised lines and the bypasses, and the conditions that points and tanks raise. The commands that use them are in
Machine/SpillCommands.lean. -/

namespace Sys2Proof.Machine

/-! ## Cause lists (R145, R146) -/

/-- The SUSPECT kinds of R145. -/
def suspectKind : CauseKind → Bool
  | .sump | .sensorFault | .valvePassing | .overfillLineFault => true
  | _ => false

/-- The level causes of R145 and R154. -/
def levelKind : CauseKind → Bool
  | .sump | .sensorFault | .emergencyStop | .overfill | .overfillLineFault => true
  | _ => false

/-- Whether an entry is for a kind and a subject. -/
def Cause.isFor (c : Cause) (kind : CauseKind) (subject : Nat) : Bool := c.kind == kind && c.subject == subject

/-- The entries of a pair marked ACTIVE or LATCHED. -/
def setActive (kind : CauseKind) (subject : Nat) (active : Bool) (l : List Cause) : List Cause :=
  l.map fun c => if c.isFor kind subject then { c with active := active } else c

/-- A cause entered in a list that has room (R146). -/
def enterList (kind : CauseKind) (subject now : Nat) (l : List Cause) : List Cause :=
  if l.any fun c => c.isFor kind subject then if levelKind kind then setActive kind subject true l else l
  else l ++ [⟨kind, subject, now, levelKind kind⟩]

/-- A cause entered in a zone's list of up to sixteen (R146). -/
def enterZone (kind : CauseKind) (subject now : Nat) (d : Zone) : Zone :=
  if (d.causes.any fun c => c.isFor kind subject) = false ∧ 16 ≤ d.causes.length then { d with more := true }
  else { d with causes := enterList kind subject now d.causes }

/-- Live shutdown (R153). -/
def Zone.live (d : Zone) : Bool :=
  decide (d.state = .shutdown) && (d.more || d.causes.any fun c => c.kind != .startUp)

/-! ## The inputs (R143, R146, R160) -/

/-- Whether an input is bypassed. -/
def State.bypassed (s : State) (b : BypassInput) : Bool := s.bypasses.any fun e => e.input == b

/-- The overfill line of a tank as last scanned. -/
def State.overfillLine (s : State) (t : Nat) : Option Line := s.overfill.getD t none

def faulted : Option Line → Bool
  | some .opened | some .shorted => true
  | _ => false

def wetLine : Option Line → Bool
  | some .wet => true
  | _ => false

/-- An overfill line of a tank that names the zone satisfies `f` and is not bypassed. -/
def State.overfillIn (s : State) (z : Nat) (f : Option Line → Bool) : Bool :=
  (numbers 8).any fun t =>
    (s.tank t).settings.zone == z && f (s.overfillLine t) && !s.bypassed (.overfill t)

/-- An active SUSPECT condition (R146). -/
def State.suspectCondition (s : State) (z : Nat) : Bool :=
  ((wetLine (s.zone z).sump || faulted (s.zone z).sump) && !s.bypassed (.sump z)) || s.overfillIn z faulted

/-- An active condition (R146). -/
def State.activeCondition (s : State) (z : Nat) : Bool :=
  s.suspectCondition z || (s.zone z).emergency || s.overfillIn z wetLine

/-! ## Telling the neighbours (R148, R154) -/

/-- The points of a zone, by their own zone or their tank's (R148). -/
def State.zonePoints (s : State) (z : Nat) : List Nat :=
  (numbers 12).filter fun i => (s.point i).settings.zone == z || s.tankZoneOf i == z

/-- The tanks that name a zone. -/
def State.zoneTanks (s : State) (z : Nat) : List Nat := (numbers 8).filter fun t => (s.tank t).settings.zone == z

/-- The stations of a zone, by their own zone or their delivery's tank's. -/
def State.zoneStations (s : State) (z : Nat) : List Nat :=
  (numbers 2).filter fun n =>
    (s.station n).zone == z ||
      match (s.station n).delivery with
      | some d => (s.tank d.tank).settings.zone == z
      | none => false

/-- Points, tanks and stations told in that order, each by number (DESIGN CHOICE: notes/assumptions/7.md). -/
def tell (points tanks stations : List Nat) (fp ft fs : Nat → State → State) (s : State) : State :=
  stations.foldl (fun s n => fs n s) (tanks.foldl (fun s t => ft t s) (points.foldl (fun s i => fp i s) s))

def tellZone (z : Nat) (fp ft fs : Nat → State → State) (s : State) : State :=
  tell (s.zonePoints z) (s.zoneTanks z) (s.zoneStations z) fp ft fs s

/-- The neighbours told that a zone has left NORMAL (R148). -/
def tellLeft (z : Nat) (s : State) : State := tellZone z pointZoneLeft pumpStopped stationZoneLeft s

/-- The neighbours told that a zone is NORMAL (R149, R158). -/
def tellNormal (z : Nat) (s : State) : State := tellZone z pointZoneNormal (fun _ s => s) stationZoneNormal s

/-- The neighbours told that a zone has shut down (R150). -/
def tellShutdown (z : Nat) (s : State) : State :=
  tellZone z (fun i s => pointShutdown i 1 s) pumpStopped stationShutdown s

/-- Every point, tank and station told that the bay has stopped (R154). -/
def tellBayStop (s : State) : State :=
  tell (numbers 12) (numbers 8) (numbers 2) (fun i s => pointShutdown i 2 s) pumpStopped stationShutdown s

/-! ## The bay (R154, R155) -/

/-- A bay cause arrives. `told` is whether step 3 of R154 is made (R196). The
number of the bay as a subject is 0. DESIGN CHOICE: notes/assumptions/49.md. -/
def bayCauseWith (told : Bool) (kind : CauseKind) (subject : Nat) (s : State) : State :=
  let was := s.bay.stopped
  let s := { s with bay := { s.bay with stopped := true, causes := enterList kind subject s.now s.bay.causes } }
  if was then s
  else
    let s := if told then tellBayStop s else s
    raise .bayStop .bay 0 (causeCode kind) subject s

/-- A bay cause arrives (R154, R155). -/
def bayCause (kind : CauseKind) (subject : Nat) (s : State) : State := bayCauseWith true kind subject s

/-- Escalation of a zone that has just become live (R153). -/
def escalate (z : Nat) (s : State) : State :=
  if (numbers 6).any fun y => y != z && (s.zone y).live then bayCause .secondZone z s else s

/-! ## Zone states (R148 to R152) -/

/-- A NORMAL zone moves to SUSPECT (R148), its cause already entered. -/
def goSuspect (z code subject : Nat) (s : State) : State :=
  let s := s.modZone z fun d => { d with state := .suspect, confirmLeft := some d.confirmTime }
  raise .zoneSuspect .zone z code subject (tellLeft z s)

/-- A NORMAL or SUSPECT zone moves to SHUTDOWN (R150), its cause already entered. -/
def goShutdown (z code subject : Nat) (s : State) : State :=
  let s := s.modZone z fun d => { d with state := .shutdown, confirmLeft := none }
  escalate z (raise .zoneShutdown .zone z code subject (tellShutdown z s))

/-- The zone and bay side of an arriving cause (R145 to R151, R153). -/
def causeActs (z : Nat) (kind : CauseKind) (subject : Nat) (s : State) : State :=
  let before := s.zone z
  let joined := levelKind kind && before.causes.any fun c => c.isFor kind subject
  let s := s.modZone z (enterZone kind subject s.now)
  let notice := fun s => if joined then s else raise .zoneCause .zone z (causeCode kind) subject s
  match before.state, suspectKind kind with
  | .normal, true => goSuspect z (causeCode kind) subject s
  | .suspect, true => notice s
  | .normal, false | .suspect, false => goShutdown z (causeCode kind) subject s
  | .shutdown, _ =>
    let s := notice s
    if before.live = false ∧ (s.zone z).live = true then escalate z s else s

/-- A cause arrives for a zone (R145); one for an unconfigured zone is discarded. OVERFILL also tells the tank's
delivery (R152). -/
def causeArrives (z : Nat) (kind : CauseKind) (subject : Nat) (s : State) : State :=
  if (s.zone z).configured = false then s
  else
    let s := causeActs z kind subject s
    if kind = .overfill then deliveryOverfill subject s else s

/-- The zone becomes NORMAL (R149, R158); `detail` is that of ZONE_NORMAL. DESIGN CHOICE: notes/assumptions/40.md. -/
def goNormal (z detail : Nat) (s : State) : State :=
  let s := s.modZone z fun d => { d with state := .normal, causes := [], more := false, confirmLeft := none }
  raise .zoneNormal .zone z detail 0 (tellNormal z s)

/-- The confirm timer of a SUSPECT zone expires (R149). -/
def confirmExpires (z : Nat) (s : State) : State :=
  if s.suspectCondition z then
    match (s.zone z).causes.find? fun c => c.active && suspectKind c.kind with
    | some c => goShutdown z (causeCode c.kind) c.subject s
    | none => goShutdown z 2 0 s
  else goNormal z 1 s

/-! ## Lines (R143, R161) -/

/-- The cause a sump reading gives, if any (R143). -/
def sumpCause : Option Line → Option CauseKind
  | some .wet => some .sump
  | some .opened | some .shorted => some .sensorFault
  | _ => none

/-- The cause an overfill reading gives, if any (R143). -/
def overfillCause : Option Line → Option CauseKind
  | some .wet => some .overfill
  | some .opened | some .shorted => some .overfillLineFault
  | _ => none

/-- The entries of a pair in every zone's list marked ACTIVE or LATCHED. DEDUCED: notes/assumptions/26.md. -/
def markEverywhere (kind : CauseKind) (subject : Nat) (active : Bool) (s : State) : State :=
  { s with zones := s.zones.map fun d => { d with causes := setActive kind subject active d.causes } }

/-- A change of a sump line that is not bypassed, from `old` to `new` (R143). -/
def sumpChanged (z : Nat) (old new : Option Line) (s : State) : State :=
  if sumpCause old = sumpCause new then s
  else
    let s := match sumpCause old with
      | some kind => s.modZone z fun d => { d with causes := setActive kind z false d.causes }
      | none => s
    match sumpCause new with
    | some kind => causeArrives z kind z s
    | none => s

/-- A change of an overfill line that is not bypassed (R143): entries in any zone follow the line, and the cause arrives
for the zone that the tank names now. -/
def overfillChanged (t : Nat) (old new : Option Line) (s : State) : State :=
  if overfillCause old = overfillCause new then s
  else
    let s := match overfillCause old with
      | some kind => markEverywhere kind t false s
      | none => s
    match overfillCause new with
    | some kind => markEverywhere kind t true (causeArrives (s.tank t).settings.zone kind t s)
    | none => s

/-- A scan's reading of the sump line of a zone (R143, R161). -/
def scanSump (z : Nat) (new : Line) (s : State) : State :=
  let d := s.zone z
  if d.configured = false then s
  else
    let s := s.setZone z { d with sump := some new }
    if s.bypassed (.sump z) then s else sumpChanged z d.sump (some new) s

/-- A scan's reading of the overfill line of a tank (R143, R161). -/
def scanOverfill (t : Nat) (new : Line) (s : State) : State :=
  if (s.tank t).configured = false then s
  else
    let old := s.overfillLine t
    let s := { s with overfill := s.overfill.set t (some new) }
    if s.bypassed (.overfill t) then s else overfillChanged t old (some new) s

/-- One scan of the supervised lines (R143): sumps by zone, then overfills by tank, then the scanned flags. DESIGN
CHOICE: notes/assumptions/7.md. -/
def scanLines (r : ScanReadings) (s : State) : State :=
  let s := forEach 6 (fun z s => scanSump z (r.sump.getD z .dry) s) s
  let s := forEach 8 (fun t s => scanOverfill t (r.overfill.getD t .dry) s) s
  { s with zones := s.zones.map fun d => { d with scanned := d.scanned || d.configured } }

/-- The ACTIVE entries a line has made become LATCHED at the setting of a bypass (R161). -/
def latchLine (b : BypassInput) (s : State) : State :=
  match b with
  | .sump z => markEverywhere .sensorFault z false (markEverywhere .sump z false s)
  | .overfill t => markEverywhere .overfillLineFault t false (markEverywhere .overfill t false s)

/-- A line's last reading. -/
def State.reading (s : State) : BypassInput → Option Line
  | .sump z => (s.zone z).sump
  | .overfill t => s.overfillLine t

/-- An entry leaves the bypass list (R161): the reading is judged as a change from DRY, then BYPASS_EXPIRED. -/
def bypassEnds (b : BypassInput) (manner : Nat) (s : State) : State :=
  let s := { s with bypasses := s.bypasses.filter fun e => e.input != b }
  let r := s.reading b
  match b with
  | .sump z => raise .bypassExpired .zone z manner (lineCode r) (sumpChanged z (some .dry) r s)
  | .overfill t => raise .bypassExpired .tank t manner (lineCode r) (overfillChanged t (some .dry) r s)

/-! ## Emergency inputs (R144) -/

/-- A change of a zone's emergency input. -/
def zoneInput (z : Nat) (pressed : Bool) (s : State) : State :=
  let s := s.modZone z fun d => { d with emergency := pressed }
  if pressed then causeArrives z .emergencyStop z s
  else s.modZone z fun d => { d with causes := setActive .emergencyStop z false d.causes }

/-- A change of the bay emergency input; the number of the bay as a subject is 0. DESIGN CHOICE: notes/assumptions/49.md. -/
def bayInput (pressed : Bool) (s : State) : State :=
  let s := { s with bay := { s.bay with emergency := pressed } }
  if pressed then bayCause .emergencyStop 0 s
  else { s with bay := { s.bay with causes := setActive .emergencyStop 0 false s.bay.causes } }

/-! ## Conditions of points (R147) -/

/-- A creep pulse (R76). DEDUCED: notes/assumptions/15.md. -/
def creepPulse (i : Nat) (s : State) : State :=
  let p := s.point i
  let p := { p with creep := sat32 (p.creep + 1) }
  if p.creepTold = false ∧ p.settings.passingAllowance ≤ p.creep then
    let s := s.setPoint i { p with creepTold := true }
    setPassing i (causeArrives p.settings.zone .valvePassing i s)
  else s.setPoint i p

/-- The closing maximum expires (R72): passing raised, the mark set, the dispense completed. -/
def closingPassed (i : Nat) (s : State) : State :=
  completeDispense i (setPassing i (causeArrives (s.point i).settings.zone .valvePassing i s))

/-- A rate window expires and the next one starts (R65). -/
def rateWindowEnds (i : Nat) (s : State) : State :=
  let p := s.point i
  let flow := flowOf p.ratePulses p.k100
  let exceed := if flowExceeds flow p.settings.maxFlow then p.exceed + 1 else 0
  let p := { p with
    flow := flow, rateLeft := some Config.rateWindow, ratePulses := 0, exceed := if exceed = 2 then 0 else exceed }
  let s := s.setPoint i p
  if exceed = 2 then causeArrives p.settings.zone .excessFlow i s else s

end Sys2Proof.Machine
end

