-- ==== Sys2Proof/Machine/Memory.lean ====
section
/-! DEFINITION. The Retained Memory Controller's writes (10): what the part's own figures make of each retained object,
the write group of an event (R193), and what a write failure does (R194). -/

namespace Sys2Proof.Machine

/-! ## The retained image of the part's own figures (R192) -/

/-- The log index the part holds (R192). -/
def imageIndex (s : State) : LogIndex :=
  ⟨s.log.oldest, s.log.held.map fun h => h.slot, s.inflight.map fun e => e.isSome⟩

/-- The retained contents that the part's own figures call for (R192). -/
def image (s : State) : Retained :=
  { roles := s.roles, queueK := s.queueK, products := s.products
    zones := s.zones.map fun z => z.toZoneKept
    tanks := s.tanks.map fun k => k.toTankKept
    points := s.points.map fun p => p.toPointKept
    stations := s.stations.map fun d => d.toStationKept
    islands := s.islands.map fun d => d.toIslandKept
    accounts := s.accounts, index := imageIndex s
    records := s.log.held.foldl (fun l h => insertNat l h.slot h.record) []
    ticket := s.log.ticket, portLog := s.portLog, entries := s.inflight }

/-- Whether an object has the same contents in `a` and `b`. -/
def sameObject (k : ObjKey) (a b : Retained) : Bool :=
  match k with
  | .roleTable => decide (a.roles = b.roles)
  | .queueLengths => decide (a.queueK = b.queueK)
  | .product n => decide (a.products.get? n = b.products.get? n)
  | .zone n => decide (a.zones.get? n = b.zones.get? n)
  | .tank n => decide (a.tanks.get? n = b.tanks.get? n)
  | .point n => decide (a.points.get? n = b.points.get? n)
  | .station n => decide (a.stations.get? n = b.stations.get? n)
  | .island n => decide (a.islands.get? n = b.islands.get? n)
  | .account n => decide (lookupNat a.accounts n = lookupNat b.accounts n)
  | .logIndex => decide (a.index = b.index)
  | .record n => decide (lookupNat a.records n = lookupNat b.records n)
  | .ticketCounter => decide (a.ticket = b.ticket)
  | .portLog n => decide (a.portLog.get? n = b.portLog.get? n)
  | .entry n => decide (a.entries.get? n = b.entries.get? n)

/-- One object of a bank copied from `new`. -/
def copyItem {α : Type} {n : Nat} (new old : Bank α n) (k : Nat) : Bank α n :=
  match new.get? k with
  | some a => old.set k a
  | none => old

/-- One object of a list copied from `new`; absent there, it leaves the list. -/
def copyKeyed {α : Type} (new old : List (Nat × α)) (k : Nat) : List (Nat × α) :=
  match lookupNat new k with
  | some a => insertNat old k a
  | none => removeNat old k

/-- One object written in its own place. -/
def putObject (new old : Retained) (k : ObjKey) : Retained :=
  match k with
  | .roleTable => { old with roles := new.roles }
  | .queueLengths => { old with queueK := new.queueK }
  | .product n => { old with products := copyItem new.products old.products n }
  | .zone n => { old with zones := copyItem new.zones old.zones n }
  | .tank n => { old with tanks := copyItem new.tanks old.tanks n }
  | .point n => { old with points := copyItem new.points old.points n }
  | .station n => { old with stations := copyItem new.stations old.stations n }
  | .island n => { old with islands := copyItem new.islands old.islands n }
  | .account n => { old with accounts := copyKeyed new.accounts old.accounts n }
  | .logIndex => { old with index := new.index }
  | .record n => { old with records := copyKeyed new.records old.records n }
  | .ticketCounter => { old with ticket := new.ticket }
  | .portLog n => { old with portLog := copyItem new.portLog old.portLog n }
  | .entry n => { old with entries := copyItem new.entries old.entries n }

/-- Objects written in their own places, in order. -/
def putObjects (keys : List ObjKey) (new old : Retained) : Retained := keys.foldl (putObject new) old

/-- The numbers that either of two keyed lists holds, rising. -/
def keysOf {α : Type} (a b : List (Nat × α)) : List Nat :=
  ((a ++ b).foldl (fun l e => insertNat l e.1 ()) []).map fun e => e.1

/-- The objects that could differ between two contents, in the order of the table of R192. DEDUCED:
notes/assumptions/34.md. -/
def candidates (a b : Retained) : List ObjKey :=
  [.roleTable, .queueLengths] ++ (numbers 8).map .product ++ (numbers 6).map .zone ++ (numbers 8).map .tank ++
    (numbers 12).map .point ++ (numbers 2).map .station ++ (numbers 4).map .island ++
    (keysOf a.accounts b.accounts).map .account ++ [.logIndex] ++ (keysOf a.records b.records).map .record ++
    [.ticketCounter] ++ (numbers 3).map .portLog ++ (numbers 14).map .entry

/-- The objects of an event's write group (R193): those the event changed, and those it writes as they stood. -/
def groupKeys (before after : Retained) (touched : List ObjKey) : List ObjKey :=
  (candidates before after).filter fun k => !sameObject k before after || touched.contains k

/-! ## Writing a group (R193, R194) -/

/-- What becomes of the next group: a memory that does not answer takes nothing. -/
def nextFate (m : Memory) : Fate :=
  match m.answers, m.fates with
  | false, _ => .failsStep1
  | true, f :: _ => f
  | true, [] => .written

/-- The objects of a group written in their own places. -/
def placeObjects (m : Memory) (keys : List ObjKey) (new : Retained) : Memory :=
  { m with stored := putObjects keys new m.stored, bad := m.bad.filter fun k => !keys.contains k }

/-- The memory when step 2 of a group stops at the object after the first `n`: that object is torn, so that its check
word no longer agrees, and the group area stands complete. What can be read of it is what it held before (DESIGN CHOICE:
notes/assumptions/47.md). -/
def tornAt (n : Nat) (m : Memory) (keys : List ObjKey) (new : Retained) : Memory :=
  let m := { placeObjects m (keys.take n) new with area := .complete keys new }
  match keys[n]? with
  | some k => { m with bad := m.bad.filter (fun b => b != k) ++ [k] }
  | none => m

/-- Steps 2 and 3 of a group whose area is complete: the memory after them, and whether no write failed (R193, R194).
A fate of step 1 is here a failure at the first object. -/
def placeGroup (fate : Fate) (m : Memory) (keys : List ObjKey) (new : Retained) : Memory × Bool :=
  match fate with
  | .written => ({ placeObjects m keys new with area := .settled }, true)
  | .failsStep1 => (tornAt 0 m keys new, false)
  | .failsStep2 n => (tornAt n m keys new, false)
  | .failsStep3 => ({ placeObjects m keys new with area := .complete keys new }, false)

/-- A group written, or abandoned at a write failure: the memory after it, and whether it was written through step 3.
DESIGN CHOICE: notes/assumptions/12.md. -/
def writeGroup (m : Memory) (keys : List ObjKey) (new : Retained) : Memory × Bool :=
  let next := { m with fates := m.fates.drop 1 }
  match nextFate m with
  | .failsStep1 => (if m.answers then { next with area := .incomplete } else next, false)
  | fate => placeGroup fate next keys new

/-- The write group of an event that led from `before` to `s` (R193). While the part runs on unreadable memory no group
is attempted (R200). -/
def writeChanges (before s : State) : State × Bool :=
  let keys := groupKeys (image before) (image s) s.touched
  let s := { s with touched := [] }
  if s.unreadable = true ∨ keys = [] then (s, true)
  else
    let r := writeGroup s.mem keys (image s)
    ({ s with mem := r.1 }, r.2)

/-- The event that led from `before` to `s` completed: its group is written, and a write failure makes MEMORY_FAULT
arrive (R194), whose own consequences are a group of their own. DEDUCED: notes/assumptions/19.md. -/
def commitWith (told : Bool) (before s : State) : State :=
  match writeChanges before s with
  | (s, true) => s
  | (s, false) => (writeChanges s (bayCauseWith told .memoryFault 0 s)).1

/-- The event completed (R193, R194). -/
def commit (before s : State) : State := commitWith true before s

/-- An event with effect `f`, taken while the part runs. -/
def taken (f : State → State) (s : State) : Host.Outcome State Fault Refusal :=
  .next (if s.mode = .running then commit s (f s) else s)

/-- An event of object number `n` of `count`: a number the bay does not have is no line of it. DESIGN CHOICE:
notes/assumptions/9.md. -/
def takenAt (count n : Nat) (f : State → State) (s : State) : Host.Outcome State Fault Refusal :=
  if 1 ≤ n ∧ n ≤ count then taken f s else .fault .noSuchLine

end Sys2Proof.Machine
end

