-- ==== Sys2Proof/Machine/Gauges.lean ====
section
/-! DEFINITION. The probe line, the gauge, the movement window's checks (02: R21 to R24, R38, R40, R42) and the station
temperature probes (06: R124), with the meanings of their events and of the pump's and tank's timers. -/

namespace Sys2Proof.Machine

/-! ## The probe line (R21) -/

/-- The addresses the part asks: of configured tanks and configured stations. -/
def State.probeAddresses (s : State) : List Nat :=
  (((numbers 8).filter fun t => (s.tank t).configured).map fun t => (s.tank t).settings.probe) ++
    ((numbers 2).filter fun n => (s.station n).configured).map fun n => (s.station n).probe

/-- The address asked now: the first held address above the one asked last, or the first of all; 0 when none is held.
DEDUCED: notes/assumptions/11.md. -/
def State.probeAsked (s : State) : Nat :=
  let held := (numbers 63).filter fun a => s.probeAddresses.contains a
  match held.find? fun a => s.probeLast < a with
  | some a => a
  | none => held.headD 0

/-- The request in progress ends, by its answer or without one, and the next address is asked (R21). -/
def probeNext (s : State) : State := { s with probeLast := s.probeAsked }

/-- The tank that holds an address (R21); the lowest where more than one does. DESIGN CHOICE: notes/assumptions/50.md. -/
def State.probeTank (s : State) (a : Nat) : Option Nat :=
  if a = 0 then none else (numbers 8).find? fun t => (s.tank t).configured && (s.tank t).settings.probe == a

/-- The station that holds an address (R124); the lowest where both do. DESIGN CHOICE: notes/assumptions/50.md. -/
def State.probeStation (s : State) (a : Nat) : Option Nat :=
  if a = 0 then none else (numbers 2).find? fun n => (s.station n).configured && (s.station n).probe == a

/-! ## The gauge (R22 to R24) -/

/-- The figures of an OK sample (R22, steps 1 to 5). Without a live strap table gauge gross and ABOVE_TABLE are free
values (DESIGN CHOICE: notes/assumptions/4.md). -/
def gaugeFigures (k : Tank) (alpha free level water : Nat) (temp : Int) : Tank :=
  let src := sourceAfter temp
  let factor := factorOf alpha (workingTemp src)
  let gross := if k.live = [] then (Config.freeVolume free).toNat else gaugeGrossOf k.live level water
  { k with
    temp := src, factor := factor
    above := if k.live = [] then Config.freeAbove free else aboveTable k.live level
    gross := gross, net := netOf gross factor
    lastSample := some ⟨level, water, temp, true⟩, gauge := .fresh, silence := some k.settings.gaugeSilence }

/-- Whether a point is FLOWING or a delivery FILLING on a tank (R38). -/
def State.productMoves (s : State) (t : Nat) : Bool :=
  ((s.fed t).any fun i => decide ((s.point i).state = .flowing)) ||
    match s.stationFor t with
    | some n => decide ((s.station n).state = .filling)
    | none => false

/-- The check of an open window against an OK sample (R40). -/
def checkWindow (t : Nat) (s : State) : State :=
  let k := s.tank t
  let loss := windowLoss k.window k.net
  let count := if windowAllowance k.settings k.window < loss then k.window.count + 1 else 0
  let s := s.setTank t { k with window := { k.window with count := count, lastLoss := loss } }
  if count = 3 then
    let s := causeArrives k.settings.zone .unmeteredLoss t s
    s.modTank t fun k => { k with window := Window.shut }
  else s

/-- Step 7 of R22: the window checked, or opened when the sample made the gauge FRESH while product moves (R38). -/
def sampleWindow (t : Nat) (wasFresh : Bool) (s : State) : State :=
  if (s.tank t).window.isOpen then checkWindow t s
  else if wasFresh = false ∧ s.productMoves t = true then openWindow t s
  else s

/-- An OK sample taken by its tank (R22). DESIGN CHOICE: notes/assumptions/4.md. DESIGN CHOICE:
notes/assumptions/40.md. -/
def okSample (t level water : Nat) (temp : Int) (s : State) : State :=
  let k := s.tank t
  let s := s.setTank t (gaugeFigures k (s.product k.settings.product).alpha s.freeCount level water temp)
  let s := if k.live = [] then { s with freeCount := s.freeCount + 1 } else s
  let s := if k.gauge = .stale then raise .gaugeRestored .tank t 0 0 s else s
  let s := evalLow t s
  let s := sampleWindow t (decide (k.gauge = .fresh)) s
  deliverySample t s

/-- An open window abandoned (R42). -/
def abandonWindow (t : Nat) (s : State) : State :=
  let k := s.tank t
  if k.window.isOpen then
    raise .windowAbandoned .tank t k.window.count k.window.lastLoss (s.setTank t { k with window := Window.shut })
  else s

/-- The gauge moves from FRESH or UNKNOWN to STALE (R24); `detail` is that of GAUGE_STALE (R23). -/
def goStale (t detail : Nat) (s : State) : State :=
  let s := s.modTank t fun k => { k with gauge := .stale }
  let s := abandonWindow t (evalLow t s)
  raise .gaugeStale .tank t detail (s.tank t).net s

/-- A FAULT sample taken by its tank (R23). -/
def faultSample (t level water : Nat) (temp : Int) (s : State) : State :=
  let k := s.tank t
  let s := s.setTank t { k with lastSample := some ⟨level, water, temp, false⟩ }
  if k.gauge = .stale then s else goStale t 1 s

/-- The silence timer of a tank expires (R23). -/
def silenceExpires (t : Nat) (s : State) : State :=
  let k := s.tank t
  let s := s.setTank t { k with silence := some k.settings.gaugeSilence }
  if k.gauge = .stale then s else goStale t 2 s

/-! ## The station probes (R124) -/

/-- A FAULT report of a station's probe; `detail` is that of STATION_PROBE_FAULT. -/
def stationFault (n detail : Nat) (s : State) : State :=
  let k := s.station n
  let s := s.setStation n { k with reportOk := false }
  if k.reportOk then raise .stationProbeFault .station n detail (workingTemp k.temp) s else s

/-- A sample of a station's probe. -/
def stationSample (n : Nat) (temp : Int) (ok : Bool) (s : State) : State :=
  if ok then
    s.modStation n fun k =>
      { k with temp := sourceAfter temp, reportOk := true, silence := some Config.stationSilence }
  else stationFault n 1 s

/-- A sample delivered (R21): OK with a level above 30,000 is a FAULT sample to a tank. DEDUCED:
notes/assumptions/33.md. Where a tank and a station hold the address, the tank takes it. DESIGN CHOICE:
notes/assumptions/50.md. -/
def deliverSample (a level water : Nat) (temp : Int) (ok : Bool) (s : State) : State :=
  match s.probeTank a, s.probeStation a with
  | some t, _ =>
    if ok = true ∧ level ≤ 30000 ∧ water ≤ 30000 then okSample t level water temp s else faultSample t level water temp s
  | none, some n => stationSample n temp ok s
  | none, none => s

/-! ## Meanings -/

/-- PROBE_SAMPLE (R21, R22, R23, R124). -/
def execProbeSample (a level water : Nat) (temp : Int) (ok : Bool) (s : State) : Host.Outcome State Fault Refusal :=
  taken (fun s => probeNext (deliverSample a level water temp ok s)) s

/-- PROBE_REPLY_TIMEOUT (R21, R201). -/
def execProbeReplyTimeout (s : State) : Host.Outcome State Fault Refusal := taken probeNext s

/-- GAUGE_SILENCE_EXPIRY (R23). -/
def execGaugeSilenceExpiry (t : Nat) (s : State) : Host.Outcome State Fault Refusal :=
  takenAt 8 t (fun s => if (s.tank t).silence = some 0 then silenceExpires t s else s) s

/-- WINDOW_SETTLE_EXPIRY (R41). -/
def execWindowSettleExpiry (t : Nat) (s : State) : Host.Outcome State Fault Refusal :=
  takenAt 8 t (fun s =>
    if (s.tank t).window.settle = some 0 then s.modTank t fun k => { k with window := Window.shut } else s) s

/-- The level of a tank's pump confirm input. -/
def setConfirm (t : Nat) (on : Bool) (s : State) : State :=
  { s with env := { s.env with confirms := s.env.confirms.set t on } }

/-- The pump's answer to its confirm input seen on (R33, R35). -/
def confirmOn (t : Nat) (s : State) : State := if (s.tank t).pump.state = .starting then pumpSeen t s else s

/-- Whether a point is told of a lost confirm (R35). -/
def toldLost : PointState → Bool
  | .starting | .flowing | .held => true
  | _ => false

/-- The pump's answer to the loss of its confirm input (R35). -/
def confirmLost (t : Nat) (s : State) : State :=
  match (s.tank t).pump.state with
  | .running | .runOn => pumpFails t toldLost 2 s
  | .off | .starting | .fault => s

/-- PUMP_CONFIRM_ON (R33, R35). The level of the pin stands whether or not the part takes the change. -/
def execPumpConfirmOn (t : Nat) (s : State) : Host.Outcome State Fault Refusal :=
  takenAt 8 t (confirmOn t) (setConfirm t true s)

/-- PUMP_CONFIRM_LOST (R35). -/
def execPumpConfirmLost (t : Nat) (s : State) : Host.Outcome State Fault Refusal :=
  takenAt 8 t (confirmLost t) (setConfirm t false s)

/-- PUMP_START_TIMEOUT (R33). -/
def execPumpStartTimeout (t : Nat) (s : State) : Host.Outcome State Fault Refusal :=
  takenAt 8 t (fun s =>
    if (s.tank t).pump.state = .starting ∧ (s.tank t).pump.startLeft = some 0 then
      pumpFails t (fun st => decide (st = .starting)) 1 s
    else s) s

/-- PUMP_RUN_ON_EXPIRY (R34). -/
def execPumpRunOnExpiry (t : Nat) (s : State) : Host.Outcome State Fault Refusal :=
  takenAt 8 t (fun s =>
    if (s.tank t).pump.state = .runOn ∧ (s.tank t).pump.runOnLeft = some 0 then
      s.setTank t ((s.tank t).setPump .off none none)
    else s) s

end Sys2Proof.Machine
end

