-- ==== Sys2Proof/Machine/Start.lean ====
section
/-! DEFINITION. Final saves, the start from retained memory, the completion of in-flight entries and the cold start
(10: R196 to R200, with each chapter's values after start). -/

namespace Sys2Proof.Machine

/-! ## Final saves (R196, step 3) -/

/-- The final save of one open entry, in a write group of its own. -/
def finalSave (pos : Nat) (s : State) : State :=
  match s.entry pos with
  | none => s
  | some _ => commitWith false s (if pos ≤ 12 then saveCore pos s else stationSave (pos - 12) s)

/-- The final saves, in order of position. -/
def finalSaves (s : State) : State := forEach 14 finalSave s

/-! ## Loading (R193, R192) -/

/-- The group area settled at start, and whether no write failed (R193, R194): a complete group is written again from
step 2. DESIGN CHOICE: notes/assumptions/12.md. -/
def settleArea (m : Memory) : Memory × Bool :=
  match m.area with
  | .settled => (m, true)
  | .incomplete => ({ m with area := .settled }, true)
  | .complete keys new => placeGroup (nextFate m) { m with fates := m.fates.drop 1 } keys new

/-- An object loaded, or the value of a failed check. -/
def loaded {α : Type} (m : Memory) (k : ObjKey) (found failed : α) : α := if m.bad.contains k then failed else found

/-- A DAMAGED tank at start (R47): out of service, its settings without a probe address, its book figures 0. DEDUCED:
notes/assumptions/18.md. -/
def damagedTank (k : TankKept) (live : List StrapRow) : TankKept :=
  { k with
    settings := { k.settings with probe := 0 }, status := .out .damaged, live := live, book := 0, opening := 0
    receipts := 0, dispensed := 0, trend := [] }

/-- A tank as its check and its product's leave it (R47, R192). Nothing is written: a tank that is DAMAGED only because its
product failed is loaded as it is stored at the next start that finds the product whole. DESIGN CHOICE:
notes/assumptions/46.md. -/
def loadTank (m : Memory) (t : Nat) (k : TankKept) : TankKept :=
  if m.bad.contains (.tank t) then damagedTank k []
  else if m.bad.contains (.product k.settings.product) then damagedTank k k.live
  else k

/-- A point as its check leaves it (R79). DEDUCED: notes/assumptions/18.md. -/
def loadPoint (m : Memory) (i : Nat) (k : PointKept) : PointKept :=
  if m.bad.contains (.point i) then { k with inService := false, reason := some .damaged, passing := false } else k

/-- A DAMAGED account (R101, R121, R122). DEDUCED: notes/assumptions/18.md. DESIGN CHOICE: notes/assumptions/42.md. -/
def damagedAccount : Account :=
  { state := .damaged, tag := 0, cls := .light, capacity := 0, hourSource := .none, hoursRequired := false
    rollover := none, meter := 0, life := 0, lastTime := none, pending := 0, fuelTotal := 0, lube := {}, band := none
    lastRate := none, limp := none, grace := 0, entries := [], carried := none }

/-- The accounts as their checks leave them (R122, R192); an account stored as VACANT counts no failure, also when the
write that was to create it tore it. DESIGN CHOICE: notes/assumptions/47.md. -/
def loadAccounts (m : Memory) : List (Nat × Account) :=
  m.stored.accounts.map fun e => if m.bad.contains (.account e.1) then (e.1, damagedAccount) else e

/-! ## The log at start (R174) -/

/-- A slot placed in an order of stored tickets, oldest first. -/
def placeSlot : List (Nat × Nat) → Nat × Nat → List (Nat × Nat)
  | [], x => [x]
  | y :: rest, x => if newer y.2 x.2 then x :: y :: rest else y :: placeSlot rest x

/-- The log index rebuilt from slots and entries when its check fails (R174). DEDUCED: notes/assumptions/28.md. -/
def rebuiltIndex (m : Memory) : LogIndex :=
  let good := m.stored.records.filter fun e => !m.bad.contains (.record e.1)
  let order := good.foldl (fun l e => placeSlot l (e.1, e.2.ticket)) []
  ⟨match order with
    | x :: _ => x.2
    | [] => m.stored.ticket,
   order.map fun x => x.1,
   m.stored.entries.mapNumbered fun n e => e.isSome && !m.bad.contains (.entry n)⟩

/-- The record of a slot that holds none that can be read. -/
def unreadableRecord : Record := ⟨0, 0, false, true, .unreadable⟩

/-- The held records that an index names, each ticket taken from its place (R174). -/
def heldFrom (m : Memory) (ticket : Nat) : List Nat → List Held
  | [] => []
  | slot :: rest =>
    let r := (lookupNat m.stored.records slot).getD unreadableRecord
    ⟨slot, { r with ticket := ticket, damaged := r.damaged || m.bad.contains (.record slot) }⟩ ::
      heldFrom m (nextTicket ticket) rest

/-- The ticket counter at start (R174). -/
def loadTicket (m : Memory) (held : List Held) : Nat :=
  if m.bad.contains .ticketCounter then
    match held.getLast? with
    | some h => nextTicket h.record.ticket
    | none => 1
  else m.stored.ticket

/-- Slots reserved for the open entries found, the lowest free ones (R174, R165). DEDUCED: notes/assumptions/28.md. -/
def reserveFor (l : Log) : Nat → Log
  | 0 => l
  | n + 1 => reserveFor { l with reserved := l.reserved ++ [l.lowest] } n

/-- A port's attach flag and cursor at start (R174). -/
def loadPortLog (m : Memory) (l : Log) (n : Nat) (k : PortLog) : PortLog :=
  if m.bad.contains (.portLog n) then ⟨true, l.oldest⟩ else k

/-- At least one port is attached after loading (R174). -/
def someAttached (l : Log) (b : Bank PortLog 3) : Bank PortLog 3 :=
  if b.items.any fun k => k.attached then b else b.set 1 ⟨true, l.oldest⟩

/-- The in-flight entries that the index marks open (R192, R199): one whose kind cannot be read stands as unreadable. -/
def loadEntries (m : Memory) (index : LogIndex) : Bank (Option Entry) 14 :=
  index.openMarks.mapNumbered fun n isOpen =>
    if isOpen then some (((m.stored.entries.get? n).getD none).getD .unreadable) else none

/-! ## The start values of the blocks (R198, step 4) -/

/-- The state in which a loaded point stands at start, its nozzle lifted or hung, and what it keeps (R79). DEDUCED:
notes/assumptions/35.md. -/
def pointAtStart (lifted : Bool) (k : PointKept) : Point :=
  if k.inService then
    if k.passing then Point.atStart { k with inService := false, reason := some .passing } .outOfService
    else Point.atStart k (if lifted then .ended else .idle)
  else Point.atStart k .outOfService

/-- A port at start (R191): rate from its straps, everything else afresh, STARTED in the queue. What it last began to
send stays what it was. -/
def portAtStart (env : Env) (manner second : Nat) (n : Nat) (d : Port) : Port :=
  { Port.atStart (rateOfStraps (env.straps.getD n 0)) d.tx with queue := [startedNotice manner second] }

/-- The emergency inputs read at start (R163, R144): zones by number, then the bay. DESIGN CHOICE:
notes/assumptions/7.md. -/
def readEmergency (s : State) : State :=
  let s := forEach 6 (fun z s =>
    if (s.zone z).configured = true ∧ s.env.zoneStops.getD z false = true then zoneInput z true s else s) s
  if s.env.bayStop then bayInput true s else s

/-- The volatile values every start gives (R198, step 4), with the retained part already in place. -/
def startValues (manner second : Nat) (s : State) : State :=
  readEmergency
    { s with
      mode := .running, ports := s.ports.mapNumbered (portAtStart s.env manner second), clock := ⟨0, false⟩
      skipped := Bank.fill 3 0, probeLast := 0, overfill := Bank.fill 8 none, bypasses := [], touched := [] }

/-- The part as a start leaves it before its volatile values: every object loaded from the memory `m`, its group area
settled (R198, step 3). -/
def loadAll (m : Memory) (s : State) : State :=
  let r := m.stored
  let index := if m.bad.contains .logIndex then rebuiltIndex m else r.index
  let held := heldFrom m index.oldest index.slots
  let entries := loadEntries m index
  let log : Log := ⟨held, [], loadTicket m held, true⟩
  let log := reserveFor log (entries.items.countP fun e => e.isSome)
  { s with
    unreadable := false, mem := m
    roles := loaded m .roleTable r.roles coldRoles, queueK := loaded m .queueLengths r.queueK (Bank.fill 3 4)
    products := r.products.mapNumbered fun n k => loaded m (.product n) k Product.cold
    tanks := r.tanks.mapNumbered fun n k => Tank.atStart (loadTank m n k)
    points := r.points.mapNumbered fun n k => pointAtStart (s.env.nozzles.getD n false) (loadPoint m n k)
    islands := r.islands.mapNumbered fun n k => Island.atStart (loaded m (.island n) k IslandKept.cold)
    stations := r.stations.mapNumbered fun n k => Station.atStart (loaded m (.station n) k StationKept.cold)
    zones := r.zones.mapNumbered fun n k => Zone.atStart n (loaded m (.zone n) k ZoneKept.cold)
    accounts := loadAccounts m, log := log
    portLog := someAttached log (r.portLog.mapNumbered (loadPortLog m log)), inflight := entries
    bay := ⟨false, [], false⟩ }

/-- The rebuilt log index written before the entries are completed (R174). -/
def writeIndex (rebuilt : Bool) (s : State) : Option State :=
  if rebuilt then some (commit s (s.touch .logIndex)) else none

/-- The points that this start has given reason PASSING: memory still has them in service (R79). -/
def State.passingAtStart (s : State) : List Nat :=
  (numbers 12).filter fun i =>
    decide ((s.point i).reason = some .passing) && (s.mem.stored.points.getD i PointKept.cold).inService

/-- Their in-service flags and reasons written, in one group, without a notice (R77). DEDUCED: notes/assumptions/35.md.
-/
def writePassing (s : State) : Option State :=
  if s.passingAtStart = [] then none
  else some (commit s (s.passingAtStart.foldl (fun s i => s.touch (.point i)) s))

/-! ## Completion of in-flight entries (R199) -/

/-- The DISPENSE record of an entry found open. -/
def lostDispense (e : DispenseEntry) (now : Nat) : DispenseRec :=
  { point := e.point, tank := e.tank, product := e.product, account := e.account, origin := e.origin
    preset := e.preset, limit := e.limit, service := e.service, bayUse := e.bayUse, granted := e.granted
    started := e.started, ended := now, endCode := .powerLost, k100 := e.k100, pulses := e.pulses, gross := e.gross
    net := e.recorded, temp := e.temp, flags := e.flags, factor := e.factor, passing := e.passing }

/-- The RECEIPT record of an entry found open (R136). -/
def lostReceipt (e : DeliveryEntry) (dispensed now : Nat) : ReceiptRec :=
  { station := e.station, tank := e.tank, product := e.product, port := e.port, opened := e.opened, ended := now
    endCode := .powerLost, passing := e.passing, k100 := e.k100, pulses := e.pulses, gross := e.gross
    net := e.recorded, flags := e.flags, ullage := e.ullage, docket := e.docket, gaugeBefore := e.gaugeBefore
    gaugeAfter := none, outflow := (dispensed : Int) - e.dispensedAtOpen
    docketVariance := e.docket.map fun q => (q : Int) - e.recorded, gaugeRise := none }

/-- The record body of an entry. -/
def entryBody (s : State) : Entry → RecordBody
  | .dispense e => .dispense (lostDispense e s.now)
  | .delivery e => .receipt (lostReceipt e (s.tank e.tank).dispensed s.now)
  | .unreadable => .unreadable

/-- The net an entry holds. -/
def Entry.net : Entry → Nat
  | .dispense e => e.recorded
  | .delivery e => e.recorded
  | .unreadable => 0

/-- The account of an entry told of the end (R199, R114). DESIGN CHOICE: notes/assumptions/42.md. -/
def tellEntryAccount (s : State) : Entry → State
  | .dispense e =>
    let cls := (s.product e.product).cls
    match e.account, e.service, decide (cls = .fuel) with
    | some a, true, false => if 0 < e.recorded then serviceByDispense a cls s else s
    | _, _, _ => s
  | _ => s

/-- The notice and the last-dispense or last-delivery fields of a completion (R199). -/
def entryCompleted (pos ticket net : Nat) (s : State) : State :=
  if pos ≤ 12 then
    raise .dispenseAbnormal .point pos (endCodeCode .powerLost) net
      (s.modPoint pos fun p => { p with lastEnd := some .powerLost, lastNet := net, lastTicket := ticket })
  else
    raiseDeliveryEnd (pos - 12) .powerLost net
      (s.modStation (pos - 12) fun k => { k with lastEnd := some .powerLost, lastNet := net, lastTicket := ticket })

/-- One open entry completed (R199), in a write group of its own. DEDUCED: notes/assumptions/28.md. -/
def completeEntry (pos : Nat) (e : Entry) (bad : Bool) (s : State) : State :=
  let ticket := s.log.ticket
  let slot := s.log.reserved.headD 0
  let net := if bad then 0 else Entry.net e
  let s1 := (completeInto slot bad (entryBody s e) s).setEntry pos none
  let s1 := if bad then s1 else tellEntryAccount s1 e
  commit s (entryCompleted pos ticket net s1)

/-- The write groups of a start made in order, those that have nothing to write left out; after `cut` of them a
power-fail warning abandons the start (R196). -/
def startGroups : List (State → Option State) → Option Nat → State → State
  | [], _, s => s
  | group :: rest, cut, s =>
    match group s, cut with
    | none, _ => startGroups rest cut s
    | some _, some 0 => s
    | some t, some (n + 1) => startGroups rest (some n) t
    | some t, none => startGroups rest none t

/-- The open entries completed, one group each, in order of position (R198, step 5). -/
def completeEntries (bad : Nat → Bool) : List (State → Option State) :=
  (numbers 14).map fun pos s => (s.entry pos).map fun e => completeEntry pos e (bad pos) s

/-- A start that a warning has cut short stands in power-fail hold (R196). DESIGN CHOICE: notes/assumptions/27.md. -/
def cutShort (cut : Option Nat) (s : State) : State := if cut.isSome then { s with mode := .powerFailHold } else s

/-- A start that loads retained memory (R198). It writes nothing of what it takes for a failed check but the log index
(R174). DESIGN CHOICE: notes/assumptions/52.md. A write failure in the settling of the group area makes MEMORY_FAULT
arrive once the Spill Monitor has its start values (R194, R163). DESIGN CHOICE: notes/assumptions/27.md. -/
def loadStart (manner : Nat) (cut : Option Nat) (s : State) : State :=
  let r := settleArea s.mem
  let m := r.1
  let s := startValues manner 0 (loadAll m s)
  let s := if r.2 then s else bayCause .memoryFault 0 s
  let unread := fun n => m.bad.contains (.entry n) || decide (s.entry n = some .unreadable)
  let s := startGroups (writeIndex (m.bad.contains .logIndex) :: writePassing :: completeEntries unread) cut s
  if cut.isSome then cutShort cut s else judgeSpace s

/-! ## Cold start (R200) -/

/-- Every block's cold-start values (R200, step 3). -/
def coldAll (s : State) : State :=
  { s with
    unreadable := false, roles := coldRoles, queueK := Bank.fill 3 4, products := Bank.fill 8 Product.cold
    tanks := Bank.fill 8 Tank.cold, points := Bank.fill 12 Point.cold, islands := Bank.fill 4 Island.cold
    stations := Bank.fill 2 Station.cold, zones := Bank.fill 6 Zone.cold, accounts := [], log := ⟨[], [], 1, true⟩
    portLog := Bank.fill 3 ⟨true, 1⟩, inflight := Bank.fill 14 none, bay := ⟨false, [], false⟩ }

/-- Memory formatted, and whether no write failed (R200, step 4). A warning that abandons the start before the formatting
is done leaves the marker unwritten (R196). DESIGN CHOICE: notes/assumptions/27.md. -/
def format (cut : Option Nat) (m : Memory) : Memory × Bool :=
  let rest := m.fates.drop 1
  match m.answers, cut, nextFate m with
  | false, _, _ => ({ m with fates := rest }, false)
  | true, some 0, _ => ({ Memory.formatted with marker := .erased, fates := m.fates }, true)
  | true, _, .written => ({ Memory.formatted with fates := rest }, true)
  | true, _, _ => ({ Memory.formatted with marker := .erased, fates := rest }, false)

/-- A cold start with formatting (R200), after CLEAR ALL or on blank memory, which a warning may cut (R196). DESIGN CHOICE:
notes/assumptions/27.md. -/
def coldStart (manner second : Nat) (cut : Option Nat) (s : State) : State :=
  let r := format cut s.mem
  let s := startValues manner second { coldAll s with mem := r.1 }
  cutShort cut (if r.2 then s else bayCause .memoryFault 0 s)

/-- A cold start on unreadable memory (R200, steps 5 and 6): nothing is written, the bay is STOPPED. -/
def coldUnreadable (manner : Nat) (s : State) : State :=
  startValues manner 3 { coldAll s with unreadable := true, bay := ⟨true, [⟨.memoryFault, 0, 0, false⟩], false⟩ }

/-- What a start finds, taken into the part: strap patterns and another memory (DESIGN CHOICE:
notes/assumptions/12.md). -/
def findIn (f : StartFinds) (s : State) : State :=
  { s with
    env := { s.env with straps := f.straps.getD s.env.straps, coming := f.later }
    mem := f.memory.getD s.mem }

/-- What the next start of RESTART or CLEAR ALL finds changed outside the part. -/
def State.nextFinds (s : State) : CommandStart := s.env.coming.headD ⟨none, none, none⟩

/-- What that start finds, taken into the part (R176, R197; DESIGN CHOICE: notes/assumptions/12.md). -/
def findNext (s : State) : State :=
  { s with
    env := { s.env with straps := s.nextFinds.straps.getD s.env.straps, coming := s.env.coming.tail }
    mem :=
      match s.nextFinds.memory with
      | some (answers, marker) => { s.mem with answers := answers, marker := marker }
      | none => s.mem }

/-- A start, with what it finds in place (R197): the format marker decides its kind. -/
def startFound (manner : Nat) (cut : Option Nat) (s : State) : State :=
  match s.mem.answers, s.mem.marker with
  | true, .present => loadStart manner cut s
  | true, .erased => coldStart manner 2 cut s
  | true, .bad | false, _ => cutShort cut (coldUnreadable manner s)

/-- A start at power-on, at the release of the reset line or at the withdrawal of the warning (R197). -/
def start (manner : Nat) (f : StartFinds) (s : State) : State := startFound manner f.cut (findIn f s)

/-- What a start finds when nothing outside has changed. -/
def StartFinds.unchanged : StartFinds := ⟨none, none, none, []⟩

end Sys2Proof.Machine
end

