-- ==== Sys2Proof/Machine/Formats.lean ====
section
/-! DEFINITION. The bytes on the lines (11): the check word (R177), numbers (R201), command frames (R202), notices
(R204), log records (R205), island bytes and messages (R81, R206) and the probe line (R207). The reply frames are in
Machine/ReplyFrames.lean. -/

namespace Sys2Proof.Machine

/-! ## Check word (R177) -/

/-- One bit of the cyclic check: x^16 + x^12 + x^5 + 1, most significant bit first. -/
def crcBit (c : BitVec 16) : BitVec 16 := if c.msb then (c <<< 1) ^^^ 0x1021#16 else c <<< 1

/-- One byte of the cyclic check. -/
def crcByte (c : BitVec 16) (b : Byte) : BitVec 16 :=
  (List.range 8).foldl (fun c _ => crcBit c) (c ^^^ (b.setWidth 16 <<< 8))

/-- The check word over bytes, initial value 0xFFFF, no final inversion (R177). -/
def checkWord (l : List Byte) : BitVec 16 := l.foldl crcByte 0xFFFF#16

/-! ## Numbers (R201) -/

/-- A number as `n` bytes, high byte first. -/
def bytesOf : Nat → Nat → List Byte
  | 0, _ => []
  | n + 1, v => bytesOf n (v / 256) ++ [BitVec.ofNat 8 v]

/-- A signed number as `n` bytes of two's complement. -/
def signedOf (n : Nat) (v : Int) : List Byte := bytesOf n (v % ((256 ^ n : Nat) : Int)).toNat

/-- The number that bytes spell, high byte first. -/
def natOf (l : List Byte) : Nat := l.foldl (fun n b => n * 256 + b.toNat) 0

/-- A flag byte from its named bits, bit 0 first. -/
def flagByte (l : List Bool) : Byte := BitVec.ofNat 8 (l.foldr (fun b n => 2 * n + b.toNat) 0)

/-- A frame: 0xA5, the length bytes and the body, and the check word over them (R202, R177). -/
def frameOf (length body : List Byte) : List Byte :=
  0xA5#8 :: (length ++ body ++ bytesOf 2 (checkWord (length ++ body)).toNat)

/-- A command frame (R202). -/
def commandFrame (body : List Byte) : List Byte := frameOf (bytesOf 1 body.length) body

/-! ## Notices and records (R204, R205) -/

/-- A notice entry of 24 bytes (R204). -/
def noticeBytes (n : Notice) : List Byte :=
  bytesOf 1 (noticeCode n.kind) ++ bytesOf 4 n.time ++ bytesOf 1 (subjectCode n.subject) ++ bytesOf 2 n.number ++
    signedOf 8 n.first ++ signedOf 8 n.second

/-- An account number; absent it is 0xFFFF (R201). -/
def accountBytes (a : Option Nat) : List Byte := bytesOf 2 (a.getD 0xFFFF)

/-- The three temperature flags (R205). -/
def tempByte (f : TempFlags) : Byte := flagByte [f.clamped, f.held, f.uncomp]

def dispenseBytes (r : DispenseRec) : List Byte :=
  bytesOf 1 r.point ++ bytesOf 1 r.tank ++ bytesOf 1 r.product ++ accountBytes r.account ++
    bytesOf 1 (originCode r.origin) ++ bytesOf 4 r.preset ++ bytesOf 1 (limitCode r.limit) ++
    [flagByte [r.service, r.bayUse, r.passing]] ++ bytesOf 4 r.granted ++ bytesOf 4 r.started ++ bytesOf 4 r.ended ++
    bytesOf 1 (endCodeCode r.endCode) ++ bytesOf 4 r.k100 ++ bytesOf 4 r.pulses ++ bytesOf 4 r.gross ++
    bytesOf 4 r.net ++ signedOf 2 r.temp ++ [tempByte r.flags] ++ bytesOf 4 r.factor

def receiptBytes (r : ReceiptRec) : List Byte :=
  bytesOf 1 r.station ++ bytesOf 1 r.tank ++ bytesOf 1 r.product ++ bytesOf 1 (portNumber r.port) ++
    bytesOf 4 r.opened ++ bytesOf 4 r.ended ++ bytesOf 1 (endCodeCode r.endCode) ++
    [flagByte [r.passing, r.docket.isSome, r.gaugeAfter.isSome]] ++ bytesOf 4 r.k100 ++ bytesOf 4 r.pulses ++
    bytesOf 4 r.gross ++ bytesOf 4 r.net ++ [tempByte r.flags] ++ signedOf 4 r.ullage ++
    bytesOf 4 (r.docket.getD 0) ++ bytesOf 4 r.gaugeBefore ++ bytesOf 4 (r.gaugeAfter.getD 0) ++
    signedOf 8 r.outflow ++ signedOf 8 (r.docketVariance.getD 0) ++ signedOf 8 (r.gaugeRise.getD 0)

def closeBytes (r : CloseRec) : List Byte :=
  bytesOf 1 r.tank ++ bytesOf 1 r.product ++ bytesOf 1 (portNumber r.port) ++ signedOf 8 r.opening ++
    signedOf 8 r.receipts ++ signedOf 8 r.dispensed ++ signedOf 8 r.book ++ bytesOf 4 r.gross ++ bytesOf 4 r.net ++
    signedOf 2 r.temp ++ [tempByte r.flags] ++ signedOf 8 r.variance ++ signedOf 8 r.tolerance ++
    signedOf 8 r.trendSum ++ bytesOf 1 r.ringCount ++ [flagByte [r.outOfTolerance, r.loss]]

def transferBytes (r : TransferRec) : List Byte :=
  let reading := match r.reading with
    | none => (0, 0, 0)
    | some (h, .accepted d) => (h, 0, d)
    | some (h, .refused x) => (h, refusalCode x, 0)
  bytesOf 2 r.service ++ bytesOf 2 r.machine ++ bytesOf 4 r.quantity ++ signedOf 8 r.carriedAfter ++
    bytesOf 1 (portNumber r.port) ++ [flagByte [r.reading.isSome, r.rate.isSome]] ++ bytesOf 4 reading.1 ++
    bytesOf 1 reading.2.1 ++ bytesOf 4 reading.2.2 ++ bytesOf 4 (r.rate.getD 0)

def serviceBytes (r : ServiceRec) : List Byte :=
  bytesOf 2 r.account ++ bytesOf 1 (classCode r.cls) ++ bytesOf 4 r.life ++ bytesOf 4 r.since ++
    bytesOf 1 (serviceStateCode r.before) ++ bytesOf 1 (portNumber r.port)

/-- The kind code and kind fields of a record (R205). -/
def bodyBytes : RecordBody → Nat × List Byte
  | .dispense r => (1, dispenseBytes r)
  | .receipt r => (2, receiptBytes r)
  | .close r => (3, closeBytes r)
  | .transfer r => (4, transferBytes r)
  | .service r => (5, serviceBytes r)
  | .unreadable => (0, [])

/-- A record as COLLECT RECORDS returns it (R205). -/
def recordBytes (r : Record) : List Byte :=
  let body := bodyBytes r.body
  bytesOf 1 (11 + body.2.length) ++ bytesOf 4 r.ticket ++ bytesOf 1 body.1 ++ bytesOf 4 r.time ++
    [flagByte [r.clockUnset, r.damaged]] ++ body.2

/-! ## Island lines and the probe line (R206, R207) -/

/-- The count of ones in a byte. -/
def onesOf (x : Byte) : Nat := (List.range 8).countP fun k => x.getLsbD k

/-- A byte in error: its parity bit does not make the count of ones in the nine bits odd, or its stop bit is not found
(R81). -/
def LineByte.inError (b : LineByte) : Bool := decide ((onesOf b.data + b.parity.toNat) % 2 = 0) || !b.stop

/-- A byte framed as both ends of an island line send it: odd parity and a stop bit (R81). -/
def lineByte (x : Byte) : LineByte := ⟨x, decide (onesOf x % 2 = 0), true⟩

/-- A message of the part on an island line (R206). -/
def messageBytes : LineMessage → List Byte
  | .poll => [0x50#8]
  | .repeatLast => [0x52#8]
  | .display d => 0x44#8 :: (bytesOf 1 (displayNumber d.code) ++ bytesOf 2 d.arg)

/-- A message as its bytes stand on the line (R81). -/
def lineMessage (m : LineMessage) : List LineByte := (messageBytes m).map lineByte

/-- A good reply of an island unit. -/
inductive UnitReply where
  | idle
  | tag (identity : BitVec 64) (hours : Option Nat)
  | keys (digits : List Nat)
  | unitFault (code : Nat)
  | ack
deriving DecidableEq, Repr

/-- What the bytes of a reply after which the line falls quiet read as, or the kind of the failed try: 2 LENGTH for
bytes that are no reply, 3 TIMEOUT for a reply that is not complete (R83, R206). -/
def readUnitReply : List Byte → Except Nat UnitReply
  | [] => .error 3
  | kind :: rest =>
    match kind.toNat, rest with
    | 0x10, [] => .ok .idle
    | 0x06, [] => .ok .ack
    | 0x13, [] => .error 3
    | 0x13, [code] => .ok (.unitFault code.toNat)
    | 0x12, [] => .error 3
    | 0x12, count :: digits =>
      if 7 < count.toNat ∨ count.toNat < digits.length ∨ (digits.all fun d => decide (d.toNat ≤ 9)) = false then .error 2
      else if digits.length < count.toNat then .error 3
      else .ok (.keys (digits.map fun d => d.toNat))
    | 0x11, l =>
      let identity := BitVec.ofNat 64 (natOf (l.take 8))
      match l.drop 8 with
      | [] => .error 3
      | flag :: hours =>
        let need := if flag.getLsbD 0 then 3 else 0
        if hours.length < need then .error 3
        else if need < hours.length then .error 2
        else .ok (.tag identity (if flag.getLsbD 0 then some (natOf hours) else none))
    | _, _ => .error 2

/-- What a reply reads as once its line is quiet: with a byte in error it fails with PARITY, kind 1 (R81, R83). DESIGN
CHOICE: notes/assumptions/25.md. -/
def readLineReply (l : List LineByte) : Except Nat UnitReply :=
  if l.any LineByte.inError then .error 1 else readUnitReply (l.map fun b => b.data)

/-- The two bytes of a request on the probe line (R207). -/
def probeRequest (a : Nat) : List Byte := [0x3A#8, BitVec.ofNat 8 a]

/-- What the bytes of a probe's answer read as: address, level, water, temperature and status; none when the check
word does not agree, so that they give no sample (R201, R207). The fields of R207's table make ten bytes, where its
sentence says eleven; the table is followed. DESIGN CHOICE: notes/assumptions/36.md. -/
def readSample (l : List Byte) : Option (Nat × Nat × Nat × Int × Bool) :=
  if l.length = 10 ∧ natOf (l.drop 8) = (checkWord (l.take 8)).toNat then
    some (natOf (l.take 1), natOf ((l.drop 1).take 2), natOf ((l.drop 3).take 2),
      (BitVec.ofNat 16 (natOf ((l.drop 5).take 2))).toInt, decide (natOf ((l.drop 7).take 1) = 0))
  else none

end Sys2Proof.Machine
end

