-- ==== Sys2Proof/Machine/ReplyFrames.lean ====
section
/-! DEFINITION. The bytes of a reply frame (11: R201 to R203): every result that a command returns, in the order of the
command reference and of the READ rules, with the widths of R201. What those rules leave open (the byte of a yes or no, the
place of a presence bit, which lists have a count, the widths of lengths, rates and ticket numbers, the codes of states that
no table gives) is one convention, DESIGN CHOICE: notes/assumptions/6.md. -/

namespace Sys2Proof.Machine

/-! ## The parts of a result (R201) -/

/-- One byte. -/
def byteOf (n : Nat) : List Byte := bytesOf 1 n

/-- A yes or no: a flag byte with bit 0. -/
def flagOf (b : Bool) : List Byte := [flagByte [b]]

/-- A volume in 4 bytes; one that outgrows them is sent as the largest. -/
def volumeOf (n : Nat) : List Byte := bytesOf 4 (sat32 n)

/-- An optional field: a byte with its presence bit, then the field, sent as 0 in its own width when it is absent; so is the
account's place within an absent grant or visit. DESIGN CHOICE: notes/assumptions/6.md. -/
def optionOf {α : Type} (width : Nat) (f : α → List Byte) : Option α → List Byte
  | some a => flagOf true ++ f a
  | none => flagOf false ++ List.replicate width 0#8

/-- A list: its count, then its entries. -/
def listOf {α : Type} (f : α → List Byte) (l : List α) : List Byte := byteOf l.length ++ l.flatMap f

/-! ## The codes of states that no table of 11 gives, in the order their rules list them -/

def pointStateCode : PointState → Nat
  | .outOfService => 0 | .idle => 1 | .authorized => 2 | .starting => 3 | .flowing => 4 | .held => 5 | .closing => 6
  | .ended => 7

def pointReasonCode : PointReason → Nat
  | .configuredOut => 0 | .unconfigured => 1 | .damaged => 2 | .passing => 3

def tankReasonCode : TankReason → Nat
  | .configuredOut => 0 | .unconfigured => 1 | .damaged => 2

def gaugeStateCode : GaugeState → Nat
  | .fresh => 0 | .stale => 1 | .unknown => 2

def pumpStateCode : PumpState → Nat
  | .off => 0 | .starting => 1 | .running => 2 | .runOn => 3 | .fault => 4

def stationStateCode : StationState → Nat
  | .idle => 0 | .filling => 1 | .paused => 2 | .settling => 3

def accountShownCode : AccountShown → Nat
  | .vacant => 0 | .active => 1 | .barred => 2 | .damaged => 3

def zoneStateCode : ZoneState → Nat
  | .normal => 0 | .suspect => 1 | .shutdown => 2

def lineStateCode : LineState → Nat
  | .unknown => 0 | .online => 1 | .fault => 2

def hourStateCode : HourState → Nat
  | .notNeeded => 0 | .pending => 1 | .accepted => 2 | .refused => 3 | .notTaken => 4

def phaseCode : Phase → Nat
  | .waitingHours => 0 | .ready => 1 | .ending => 2

/-- Account class codes (R203). -/
def accountClassCode : AccountClass → Nat
  | .haul => 1 | .loader => 2 | .dozer => 3 | .grader => 4 | .drill => 5 | .water => 6 | .service => 7 | .light => 8

/-- Hour source codes (R203). -/
def hourSourceCode : HourSource → Nat
  | .none => 0 | .tag => 1 | .keypad => 2

/-- A role set as a byte (R203). -/
def roleByte (r : RoleSet) : Byte := flagByte [r.dispatch, r.maintenance, r.stock, r.safety, r.supervisor]

/-! ## READ POINT (R78) and READ TANK (R47) -/

/-- The settings of a point with its in-service flag, as POINT SET gives them (R203). -/
def pointSettingsBytes (c : PointSettings) (inService : Bool) : List Byte :=
  byteOf c.island ++ byteOf c.zone ++ byteOf c.tank ++ bytesOf 4 c.k100 ++ bytesOf 4 c.maxFlow ++
    bytesOf 4 c.minDispense ++ bytesOf 4 c.maxDispense ++ bytesOf 4 c.slowdown ++ bytesOf 4 c.lubePreset ++
    bytesOf 2 c.authTimeout ++ bytesOf 2 c.noFlow ++ bytesOf 2 c.holdLimit ++ bytesOf 2 c.quietTime ++
    bytesOf 2 c.passingAllowance ++ flagOf inService

/-- The fields of a grant (3.3). -/
def grantBytes (g : Grant) : List Byte :=
  accountBytes g.account ++ byteOf (originCode g.origin) ++ bytesOf 4 g.preset ++ byteOf (limitCode g.limit) ++
    [flagByte [g.service, g.bayUse]] ++ bytesOf 4 g.granted ++ optionOf 1 byteOf g.visit

def pointViewBytes (v : PointView) : List Byte :=
  byteOf (pointStateCode v.state) ++ optionOf 1 (fun r => byteOf (pointReasonCode r)) v.reason ++ flagOf v.passing ++
    pointSettingsBytes v.settings v.inService ++ flagOf v.lifted ++ [flagByte [v.fast, v.slow]] ++
    optionOf 15 grantBytes v.grant ++ [flagByte [v.holdMaster, v.holdSpill]] ++ optionOf 2 (bytesOf 2) v.holdLeft ++
    bytesOf 4 v.pulses ++ bytesOf 4 v.gross ++ bytesOf 4 v.net ++ bytesOf 4 v.recorded ++ signedOf 4 v.remaining ++
    bytesOf 4 v.k100 ++ signedOf 2 v.temp ++ [tempByte v.flags] ++ bytesOf 4 v.factor ++
    optionOf 1 (fun c => byteOf (endCodeCode c)) v.endCode ++ bytesOf 4 v.creep ++ bytesOf 4 v.flow ++
    byteOf ((v.lastEnd.map endCodeCode).getD 0) ++ bytesOf 4 v.lastNet ++ bytesOf 4 v.lastTicket

/-- The settings of a tank, as TANK SET gives them (R203). -/
def tankSettingsBytes (c : TankSettings) : List Byte :=
  byteOf c.product ++ byteOf c.zone ++ byteOf c.probe ++ bytesOf 4 c.capacity ++ bytesOf 4 c.highLimit ++
    bytesOf 4 c.lowCutoff ++ bytesOf 2 c.gaugeSilence ++ bytesOf 2 c.pumpStart ++ bytesOf 2 c.runOn ++
    bytesOf 2 c.settle ++ bytesOf 4 c.windowBase ++ byteOf c.windowPerMille ++ bytesOf 4 c.varianceBase ++
    byteOf c.variancePerMille ++ bytesOf 4 c.trendLimit

/-- The service status and reason of a tank (R20): the flag is that of a tank in service. -/
def tankStatusBytes : TankStatus → List Byte
  | .inService => flagOf true ++ optionOf 1 byteOf none
  | .out r => flagOf false ++ optionOf 1 byteOf (some (tankReasonCode r))

/-- A sample (R21), its status as R207 gives it, without the probe address, which the settings show. DESIGN CHOICE:
notes/assumptions/6.md. -/
def sampleBytes (x : Sample) : List Byte :=
  bytesOf 2 x.level ++ bytesOf 2 x.water ++ signedOf 2 x.temp ++ flagOf (!x.ok)

/-- The fields of a movement window (2.8). -/
def windowBytes (w : Window) : List Byte :=
  flagOf w.isOpen ++ bytesOf 4 w.gaugeAtOpen ++ bytesOf 8 w.movedIn ++ bytesOf 8 w.movedOut ++ byteOf w.count ++
    optionOf 2 (bytesOf 2) w.settle

def tankViewBytes (v : TankView) : List Byte :=
  tankStatusBytes v.status ++ tankSettingsBytes v.settings ++ byteOf (gaugeStateCode v.gauge) ++
    optionOf 7 sampleBytes v.lastSample ++ signedOf 2 v.temp ++ [tempByte v.flags] ++ flagOf v.above ++
    bytesOf 4 v.gross ++ bytesOf 4 v.net ++ signedOf 8 v.book ++ signedOf 8 v.opening ++ bytesOf 8 v.receipts ++
    bytesOf 8 v.dispensed ++ signedOf 8 v.basis ++ flagOf v.basisIsGauge ++ volumeOf v.available ++
    byteOf v.commitments ++ volumeOf v.committed ++ byteOf (pumpStateCode v.pump) ++ windowBytes v.window

/-- A row of a strap table. -/
def strapBytes (r : StrapRow) : List Byte := bytesOf 2 r.level ++ bytesOf 4 r.vol

/-! ## READ STATION (R139) and READ ACCOUNT (R121) -/

/-- The fields of a delivery (6.2). -/
def deliveryBytes (d : DeliveryFields) : List Byte :=
  byteOf d.tank ++ optionOf 4 (bytesOf 4) d.docket ++ signedOf 4 d.ullage ++ bytesOf 4 d.k100 ++ bytesOf 4 d.pulses ++
    bytesOf 4 d.gross ++ bytesOf 4 d.savedGross ++ bytesOf 4 d.recorded ++ [tempByte d.flags] ++
    bytesOf 4 d.gaugeGross ++ bytesOf 4 d.gaugeBefore ++ bytesOf 8 d.dispensedAtOpen ++ byteOf (portNumber d.port) ++
    bytesOf 4 d.opened ++ optionOf 4 (bytesOf 4) d.ended ++ optionOf 1 (fun c => byteOf (endCodeCode c)) d.endCode ++
    flagOf d.passing

def stationViewBytes (v : StationView) : List Byte :=
  flagOf v.settings.configured ++ byteOf v.settings.zone ++ bytesOf 4 v.settings.k100 ++ byteOf v.settings.probe ++
    bytesOf 2 v.settings.noFlow ++ byteOf (stationStateCode v.state) ++ signedOf 2 v.temp ++ [tempByte v.flags] ++
    flagOf (!v.reportOk) ++ flagOf v.valve ++ flagOf v.inlet ++ optionOf 60 deliveryBytes v.delivery ++
    optionOf 2 (bytesOf 2) v.timerLeft ++ optionOf 2 (bytesOf 2) v.maximumLeft ++ bytesOf 4 v.lastTicket ++
    byteOf ((v.lastEnd.map endCodeCode).getD 0) ++ bytesOf 4 v.lastNet

/-- A service entry (5.5). -/
def serviceEntryBytes (e : ServiceEntry) : List Byte :=
  byteOf (classCode e.cls) ++ bytesOf 4 e.interval ++ bytesOf 4 e.last ++ byteOf (serviceStateCode e.state)

/-- The fields of an account (5.1), its state apart. -/
def accountFieldBytes (number : Nat) (a : Account) : List Byte :=
  bytesOf 2 number ++ bytesOf 8 a.tag.toNat ++ byteOf (accountClassCode a.cls) ++ bytesOf 4 a.capacity ++
    byteOf (hourSourceCode a.hourSource) ++ flagOf a.hoursRequired ++ optionOf 4 (bytesOf 4) a.rollover ++
    bytesOf 4 a.meter ++ bytesOf 4 a.life ++ optionOf 4 (bytesOf 4) a.lastTime ++ bytesOf 4 a.pending ++
    bytesOf 4 a.fuelTotal ++ bytesOf 4 a.lube.engineOil ++ bytesOf 4 a.lube.hydraulic ++
    bytesOf 4 a.lube.transmission ++ bytesOf 4 a.lube.coolant ++ bytesOf 4 a.lube.grease ++
    optionOf 8 (fun b => bytesOf 4 b.1 ++ bytesOf 4 b.2) a.band ++ optionOf 4 (bytesOf 4) a.lastRate ++
    optionOf 4 (bytesOf 4) a.limp ++ bytesOf 4 a.grace ++ listOf serviceEntryBytes a.entries ++
    optionOf 8 (bytesOf 8) a.carried

def accountViewBytes (v : AccountView) : List Byte :=
  accountFieldBytes v.number v.account ++ flagOf v.underHold ++ listOf byteOf v.points ++ optionOf 1 byteOf v.island

/-! ## READ ZONE (R162), READ ISLAND (R99) and READ PORT (R188) -/

/-- An entry of a cause list (R146); its status is 1 while ACTIVE. DESIGN CHOICE: notes/assumptions/6.md. -/
def causeBytes (c : Cause) : List Byte :=
  byteOf (causeCode c.kind) ++ bytesOf 2 c.subject ++ bytesOf 4 c.first ++ flagOf c.active

/-- An input of a bypass, by the codes of R203. -/
def inputBytes : BypassInput → List Byte
  | .sump z => byteOf 1 ++ byteOf z
  | .overfill t => byteOf 2 ++ byteOf t

/-- An entry of the bypass list (R160). -/
def bypassBytes (e : Bypass) : List Byte := inputBytes e.input ++ byteOf (portNumber e.port) ++ bytesOf 2 e.remaining

def bayViewBytes (v : BayView) : List Byte :=
  flagOf v.stopped ++ listOf causeBytes v.causes ++ flagOf v.emergency ++ flagOf v.relayClosed ++
    listOf bypassBytes v.bypasses

def zoneViewBytes (v : ZoneView) : List Byte :=
  flagOf v.settings.configured ++ bytesOf 2 v.settings.confirmTime ++ byteOf (zoneStateCode v.state) ++
    optionOf 2 (bytesOf 2) v.confirmLeft ++ flagOf v.scanned ++ flagOf v.permit ++ listOf causeBytes v.causes ++
    flagOf v.more ++ flagOf v.live ++ byteOf (lineCode v.sump) ++ flagOf v.sumpBypassed ++ flagOf v.emergency ++
    listOf (fun o => byteOf o.tank ++ byteOf (lineCode o.reading) ++ flagOf o.bypassed) v.overfills

/-- A display: its code and argument (R206). -/
def displayBytes (d : Display) : List Byte := byteOf (displayNumber d.code) ++ bytesOf 2 d.arg

/-- The fields of a visit (4.4); the mark of a dispense is 1 while it is active. DESIGN CHOICE: notes/assumptions/6.md. -/
def visitBytes (v : VisitFields) : List Byte :=
  bytesOf 2 v.account ++ bytesOf 4 v.opened ++ byteOf (hourStateCode v.hour) ++ optionOf 4 (bytesOf 4) v.reading ++
    optionOf 4 (bytesOf 4) v.delta ++ byteOf v.attempts ++ listOf (fun e => byteOf e.point ++ flagOf e.active) v.list ++
    byteOf (phaseCode v.phase) ++ optionOf 2 (bytesOf 2) v.idle

def islandViewBytes (v : IslandView) : List Byte :=
  flagOf v.settings.configured ++ bytesOf 2 v.settings.idleTime ++ byteOf (lineStateCode v.line) ++
    flagOf v.unitFaulted ++ flagOf v.closed ++ optionOf 3 displayBytes v.lastAck ++ flagOf v.displayPending ++
    optionOf 23 visitBytes v.visit

/-- READ PORT (R188): its rate in bit/s and its queue's length. DESIGN CHOICE: notes/assumptions/6.md. -/
def portViewBytes (v : PortView) : List Byte :=
  bytesOf 4 v.rate ++ [roleByte v.roles] ++ bytesOf 2 v.length ++ bytesOf 2 v.queued ++ flagOf v.overflow ++
    flagOf v.attention ++ flagOf v.framing ++ flagOf v.overrun ++ flagOf v.attached ++ bytesOf 4 v.cursor ++
    bytesOf 4 v.skipped ++ bytesOf 4 v.time ++ flagOf v.clockSet ++ bytesOf 2 v.free

/-! ## Results and frames (R202) -/

/-- What became of a reading: its outcome code and its delta, 0 where it was refused (R205); the delta is sent after FIELD
TRANSFER too. DESIGN CHOICE: notes/assumptions/6.md. -/
def outcomeBytes (o : HourOutcome) : List Byte :=
  byteOf (outcomeCode o) ++
    bytesOf 4 (match o with
      | .accepted d => d
      | .refused _ => 0)

/-- The bytes of the results of a reply (9.7, R201 to R205), a strap table with its count of rows. DESIGN CHOICE:
notes/assumptions/6.md. -/
def resultBytes : Result → List Byte
  | .empty => []
  | .point v => pointViewBytes v
  | .tank v => tankViewBytes v
  | .strap rows => listOf strapBytes rows
  | .station v => stationViewBytes v
  | .accountState x => byteOf (accountShownCode x)
  | .account x v => byteOf (accountShownCode x) ++ accountViewBytes v
  | .tagFound a x => bytesOf 2 a ++ byteOf (accountShownCode x)
  | .zone v b => zoneViewBytes v ++ bayViewBytes b
  | .bay v => bayViewBytes v
  | .island v => islandViewBytes v
  | .port v => portViewBytes v
  | .notices l left overflow => listOf noticeBytes l ++ bytesOf 2 left ++ flagOf overflow
  | .records l cursor more skipped free =>
    byteOf l.length ++ bytesOf 4 cursor ++ flagOf more ++ bytesOf 4 skipped ++ bytesOf 2 free ++ l.flatMap recordBytes
  | .preset net limit => bytesOf 4 net ++ byteOf (limitCode limit)
  | .newlyHeld | .resumed => flagOf false
  | .alreadyHeld | .stillHeld => flagOf true
  | .hours o => outcomeBytes o
  | .transfer ticket carried o => bytesOf 4 ticket ++ bytesOf 8 carried ++ optionOf 5 outcomeBytes o
  | .serviceStates l => l.flatMap fun x => byteOf (serviceStateCode x)
  | .ticket n | .cursor n => bytesOf 4 n
  | .rowIndex n | .rowCount n => byteOf n
  | .ullage n => signedOf 4 n
  | .close ticket variance tolerance sum ring out loss =>
    bytesOf 4 ticket ++ signedOf 8 variance ++ signedOf 8 tolerance ++ signedOf 8 sum ++ listOf (signedOf 8) ring ++
      [flagByte [out, loss]]
  | .zoneState z => byteOf (zoneStateCode z)
  | .bayStopped b => flagOf b
  | .zoneStates l => l.flatMap fun z => byteOf (zoneStateCode z)
  | .bypass remaining r => bytesOf 2 remaining ++ byteOf (lineCode r)
  | .reading r => byteOf (lineCode r)
  | .cause code subject => byteOf code ++ bytesOf 2 subject
  | .roles table => table.items.map roleByte
  | .queues lengths counts => lengths.items.flatMap (bytesOf 2) ++ counts.items.flatMap (bytesOf 2)
  | .clock before wasSet => bytesOf 4 before ++ flagOf wasSet
  | .free n => bytesOf 2 n

/-- The status byte: the status in bits 0 to 3, framing in bit 6, overrun in bit 7 (R202). -/
def statusByte (r : Reply) : Byte :=
  BitVec.ofNat 8 (statusCode r.answer.status + 64 * r.framing.toNat + 128 * r.overrun.toNat)

/-- A reply frame (R177, R201, R202). -/
def replyFrame (r : Reply) : List Byte :=
  let body := r.code :: statusByte r :: resultBytes r.answer.result
  frameOf (bytesOf 2 body.length) body

end Sys2Proof.Machine
end

