-- ==== Sys2Proof/Machine/Replying.lean ====
section
/-! DEFINITION. How a command of a master is taken and answered (09: R178 to R181), shared by the command rows and by the
frames: role check, owner's answer, write group, reply. -/

namespace Sys2Proof.Machine

/-- The roles that permit a command code (9.6, 9.7): none when the code names no command, `some none` for any port. -/
def commandRoles (code : Nat) : Option (Option RoleSet) :=
  if 0x01 ≤ code ∧ code ≤ 0x0A then some none
  else if code = 0x20 then some (some { dispatch := true, maintenance := true })
  else if code = 0x2E then some (some { dispatch := true, stock := true })
  else if (0x21 ≤ code ∧ code ≤ 0x25) ∨ (0x28 ≤ code ∧ code ≤ 0x2D) then some (some { dispatch := true })
  else if code = 0x30 ∨ code = 0x31 then some (some { maintenance := true })
  else if 0x40 ≤ code ∧ code ≤ 0x46 then some (some { stock := true })
  else if 0x50 ≤ code ∧ code ≤ 0x55 then some (some { safety := true })
  else if 0x60 ≤ code ∧ code ≤ 0x6A then some (some { supervisor := true })
  else none

/-- The role check of R180. -/
def permitted (s : State) (p : PortId) (code : Nat) : Bool :=
  match commandRoles code with
  | some none => true
  | some (some r) => meets (s.rolesOf p) r
  | none => false

/-- A refusal: nothing changes. -/
def refuse (st : Status) (s : State) : State × Answer := (s, ⟨st, .empty⟩)

/-- An acceptance with its results. -/
def okWith (r : Result) (s : State) : State × Answer := (s, ⟨.ok, r⟩)

/-- An acceptance without results. -/
def okay (s : State) : State × Answer := (s, ⟨.ok, .empty⟩)

/-- A reply begins to be sent: it carries both link flags, which are cleared (R179). -/
def beginReply (p : PortId) (code : Byte) (a : Answer) (s : State) : State :=
  s.modPort p fun d =>
    { d with
      tx := some ⟨code, a, d.framing, d.overrun⟩, sending := true, waiting := none, framing := false
      overrun := false }

/-- The replies begun or outstanding at a port are sent in full (R178, R189). -/
def drain (p : PortId) (s : State) : State :=
  match (s.port p).waiting with
  | some w => (beginReply p w.1 w.2 s).modPort p fun d => { d with sending := false }
  | none => s.modPort p fun d => { d with sending := false }

/-- The owner's answer, once the role check has passed (R180). -/
def judged (p : PortId) (code : Nat) (f : State → State × Answer) (s : State) : State × Answer :=
  if permitted s p code then f s else refuse .role s

/-- A command taken at a port as a row of the table: the earlier replies of the port have been sent, the owner answers,
its write group is written, and the reply begins (DESIGN CHOICE: notes/assumptions/2.md). -/
def command (p : PortId) (code : Nat) (f : State → State × Answer) (s : State) : Host.Outcome State Fault Refusal :=
  .next (
    if s.mode = .running then
      let r := judged p code f (drain p s)
      beginReply p (BitVec.ofNat 8 code) r.2 (commit s r.1)
    else s)

end Sys2Proof.Machine
end

