-- ==== Sys2Proof/Machine/Reads.lean ====
section
/-! DEFINITION. The READ commands and FIND TAG (R47, R78, R99, R102, R121, R139, R162, R188): what each shows, and their
meanings. None changes the state but for the reply. -/

namespace Sys2Proof.Machine

/-- READ POINT (R78). -/
def pointView (s : State) (i : Nat) : PointView :=
  let p := s.point i
  { state := p.state, reason := if p.state = .outOfService then p.reason else none, passing := p.passing
    settings := p.settings, inService := p.inService, lifted := s.env.nozzles.getD i false
    fast := s.fastOutput i, slow := s.slowOutput i, grant := p.grant, holdMaster := p.holdMaster
    holdSpill := p.holdSpill, holdLeft := p.holdLeft, pulses := p.pulses, gross := p.gross, net := p.net
    recorded := p.recorded, remaining := p.remaining, k100 := p.k100, temp := p.temp, flags := p.flags
    factor := p.factor, endCode := p.endCode, creep := p.creep, flow := p.flow, lastEnd := p.lastEnd
    lastNet := p.lastNet, lastTicket := p.lastTicket }

def answerReadPoint (i : Nat) (s : State) : State × Answer :=
  if 1 ≤ i ∧ i ≤ 12 then okWith (.point (pointView s i)) s else refuse .unknown s

/-- READ TANK, record option (R47). -/
def tankView (k : Tank) : TankView :=
  { status := k.status, settings := k.settings, gauge := k.gauge, lastSample := k.lastSample
    temp := workingTemp k.temp, flags := k.flags, above := k.above, gross := k.gross, net := k.net, book := k.book
    opening := k.opening, receipts := k.receipts, dispensed := k.dispensed, basis := k.basis
    basisIsGauge := decide (k.gauge = .fresh), available := k.available, commitments := k.commitments.length
    committed := k.committed, pump := k.pump.state, window := k.window }

/-- READ TANK (R47); an option that R203 gives no meaning is out of range (DESIGN CHOICE: notes/assumptions/10.md). -/
def answerReadTank (t option : Nat) (s : State) : State × Answer :=
  if 1 ≤ t ∧ t ≤ 8 then
    match option with
    | 0 => okWith (.tank (tankView (s.tank t))) s
    | 1 => okWith (.strap (s.tank t).live) s
    | 2 => okWith (.strap (s.tank t).staging.items) s
    | _ => refuse .range s
  else refuse .unknown s

/-- READ STATION (R139). In SETTLING, where the quiet timer and the maximum timer both run, both are shown, the quiet timer
first. DESIGN CHOICE: notes/assumptions/48.md. -/
def stationView (s : State) (n : Nat) : StationView :=
  let k := s.station n
  { settings := k.toStationKept, state := k.state, temp := workingTemp k.temp, flags := k.flags
    reportOk := k.reportOk, valve := s.stationOutput n
    inlet := match k.delivery with
      | some d => s.inletOutput d.tank
      | none => false
    delivery := k.delivery.map fun d => d.toDeliveryFields
    timerLeft := k.delivery.bind fun d => if k.state = .settling then d.quietLeft else d.noFlowLeft
    maximumLeft := k.delivery.bind fun d => d.maxLeft
    lastTicket := k.lastTicket, lastEnd := k.lastEnd, lastNet := k.lastNet }

def answerReadStation (n : Nat) (s : State) : State × Answer :=
  if 1 ≤ n ∧ n ≤ 2 then okWith (.station (stationView s n)) s else refuse .unknown s

/-- The state of an account as a reply shows it (R101). -/
def shownState : AccountState → AccountShown
  | .active => .active
  | .barred => .barred
  | .damaged => .damaged

/-- READ ACCOUNT (R121). -/
def answerReadAccount (a : Nat) (s : State) : State × Answer :=
  if 511 < a then refuse .unknown s
  else
    match s.account? a with
    | none => okWith (.accountState .vacant) s
    | some c =>
      okWith (.account (shownState c.state)
        { number := a, account := if c.state = .damaged then damagedAccount else c
          underHold := decide (c.state ≠ .damaged) && Account.underHold c
          points := s.grantsOn a, island := s.visitOf a }) s

/-- FIND TAG (R102). -/
def answerFindTag (tag : BitVec 64) (s : State) : State × Answer :=
  match s.findTag? tag with
  | some (a, c) => okWith (.tagFound a (shownState c.state)) s
  | none => refuse .unknown s

/-- The bay part of READ ZONE (R162). -/
def bayView (s : State) : BayView :=
  { stopped := s.bay.stopped, causes := s.bay.causes, emergency := s.bay.emergency, relayClosed := s.relayClosed
    bypasses := s.bypasses }

/-- The zone part of READ ZONE (R162). -/
def zoneView (s : State) (z : Nat) : ZoneView :=
  let d := s.zone z
  { settings := d.toZoneKept, state := d.state, confirmLeft := d.confirmLeft, scanned := d.scanned
    permit := s.permit z, causes := d.causes, more := d.more, live := d.live, sump := d.sump
    sumpBypassed := s.bypassed (.sump z), emergency := d.emergency
    overfills := (s.zoneTanks z).map fun t => ⟨t, s.overfillLine t, s.bypassed (.overfill t)⟩ }

/-- READ ZONE (R162); zone 0 is the bay alone. -/
def answerReadZone (z : Nat) (s : State) : State × Answer :=
  if z = 0 then okWith (.bay (bayView s)) s
  else if z ≤ 6 then okWith (.zone (zoneView s z) (bayView s)) s
  else refuse .unknown s

/-- READ ISLAND (R99). -/
def islandView (s : State) (i : Nat) : IslandView :=
  let d := s.island i
  { settings := d.toIslandKept, line := d.line, unitFaulted := d.unitFaulted, closed := s.closedSwitch i
    lastAck := d.lastAck, displayPending := d.pendingDisplay.isSome
    visit := d.visit.map fun v => v.toVisitFields }

def answerReadIsland (i : Nat) (s : State) : State × Answer :=
  if 1 ≤ i ∧ i ≤ 4 then okWith (.island (islandView s i)) s else refuse .unknown s

/-- READ PORT (R188). -/
def portView (s : State) (p : PortId) : PortView :=
  let d := s.port p
  { rate := d.rate, roles := s.rolesOf p, length := s.queueLength p, queued := d.queue.length
    overflow := d.overflow, attention := s.attention p, framing := d.framing, overrun := d.overrun
    attached := (s.logOf p).attached, cursor := (s.logOf p).cursor, skipped := s.skippedOf p, time := s.now
    clockSet := s.clock.set, free := s.log.free }

def answerReadPort (n : Nat) (s : State) : State × Answer :=
  match portOfCode n with
  | some p => okWith (.port (portView s p)) s
  | none => refuse .unknown s

/-! ## Meanings -/

/-- READ_POINT (R78). -/
def execReadPoint (p : PortId) (i : Nat) (s : State) : Host.Outcome State Fault Refusal :=
  command p 0x01 (answerReadPoint i) s

/-- READ_TANK (R47). -/
def execReadTank (p : PortId) (t option : Nat) (s : State) : Host.Outcome State Fault Refusal :=
  command p 0x02 (answerReadTank t option) s

/-- READ_STATION (R139). -/
def execReadStation (p : PortId) (n : Nat) (s : State) : Host.Outcome State Fault Refusal :=
  command p 0x03 (answerReadStation n) s

/-- READ_ACCOUNT (R121). -/
def execReadAccount (p : PortId) (a : Nat) (s : State) : Host.Outcome State Fault Refusal :=
  command p 0x04 (answerReadAccount a) s

/-- FIND_TAG (R102). -/
def execFindTag (p : PortId) (tag : BitVec 64) (s : State) : Host.Outcome State Fault Refusal :=
  command p 0x05 (answerFindTag tag) s

/-- READ_ZONE (R162). -/
def execReadZone (p : PortId) (z : Nat) (s : State) : Host.Outcome State Fault Refusal :=
  command p 0x06 (answerReadZone z) s

/-- READ_ISLAND (R99). -/
def execReadIsland (p : PortId) (i : Nat) (s : State) : Host.Outcome State Fault Refusal :=
  command p 0x07 (answerReadIsland i) s

/-- READ_PORT (R188). -/
def execReadPort (p : PortId) (n : Nat) (s : State) : Host.Outcome State Fault Refusal :=
  command p 0x08 (answerReadPort n) s

end Sys2Proof.Machine
end

