-- ==== Sys2Proof/Machine/Points.lean ====
section
/-! DEFINITION. The commands and events of the dispense points (03): AUTHORIZE to POINT SERVICE, POINT SET, the nozzle, the
meter and the timers of a point. -/

namespace Sys2Proof.Machine

/-! ## AUTHORIZE (R52) -/

/-- The role check of R52, step 5. -/
def authorizeRoles (r : RoleSet) (fuel service bayUse : Bool) : Bool :=
  (if fuel then r.dispatch else r.dispatch || r.maintenance) && (!bayUse || r.dispatch) && (!service || r.maintenance)

/-- Whether the point's zone or its tank's zone is not NORMAL, or the bay is STOPPED (R52, R55). -/
def pointStopped (s : State) (i : Nat) : Bool := !s.pointZonesNormal i || s.bay.stopped

/-- Whether the point's tank is out of service or its pump in FAULT (R52, step 4). -/
def tankRefuses (k : Tank) : Bool := !k.inServiceB || decide (k.pump.state = .fault)

/-- The checks of R52 that come before the account, 1 to 7. -/
def authorizeStatus (p : PortId) (i : Nat) (service bayUse : Bool) (s : State) : Option Status :=
  let d := s.point i
  let fuel := decide (s.pointClass i = .fuel)
  if ¬ (1 ≤ i ∧ i ≤ 12) then some .unknown
  else if d.state = .outOfService then some .state
  else if d.state ≠ .idle then some .busy
  else if tankRefuses (s.tank d.settings.tank) then some .state
  else if authorizeRoles (s.rolesOf p) fuel service bayUse = false then some .role
  else if pointStopped s i then some .stopped
  else if (bayUse && service) || (service && fuel) then some .range
  else none

/-- The grant taken and the point in AUTHORIZED (R51, R52), once the account is known; checks 10 and 11. -/
def authorizeGrant (p : PortId) (i account requested : Nat) (service bayUse : Bool) (a : Option Account) (s : State) :
    State × Answer :=
  let preset := presetOf s i a requested
  if s.log.free = 0 then refuse .full s
  else if preset.1 < (s.point i).settings.minDispense then refuse .range s
  else
    let g : Grant :=
      { account := if bayUse then none else some account, origin := .port p, preset := preset.1, limit := preset.2
        service := service, bayUse := bayUse, granted := s.now, visit := none }
    let s := takeGrant i g s
    let s := s.modPoint i fun d => { d with state := .authorized, authLeft := some d.settings.authTimeout }
    okWith (.preset preset.1 preset.2) s

/-- AUTHORIZE (R52); with BAY_USE the account number alone is judged, by R101, in the place of check 8. DESIGN CHOICE:
notes/assumptions/10.md. -/
def answerAuthorize (p : PortId) (i account requested : Nat) (service bayUse : Bool) (s : State) : State × Answer :=
  match authorizeStatus p i service bayUse s with
  | some st => refuse st s
  | none =>
    if bayUse then
      if 511 < account then refuse .unknown s else authorizeGrant p i account requested service bayUse none s
    else
      match s.account? account with
      | none => refuse .unknown s
      | some a =>
        if a.state ≠ .active then refuse .barred s
        else authorizeGrant p i account requested service bayUse (some a) s

/-! ## CANCEL, HOLD, RESUME, ABORT, POINT SERVICE (R57, R67, R68, R71, R49) -/

/-- A command that names a point. -/
def atPoint (i : Nat) (f : State → State × Answer) (s : State) : State × Answer :=
  if 1 ≤ i ∧ i ≤ 12 then f s else refuse .unknown s

/-- CANCEL (R57). -/
def answerCancel (i : Nat) : State → State × Answer := atPoint i fun s =>
  if (s.point i).state = .authorized then okay (dropGrant i s) else refuse .state s

/-- HOLD (R67). -/
def answerHold (i : Nat) : State → State × Answer := atPoint i fun s =>
  match (s.point i).state, (s.point i).holdMaster with
  | .starting, _ | .flowing, _ => okWith .newlyHeld (enterHeld i (s.modPoint i fun d => { d with holdMaster := true }))
  | .held, true => okWith .alreadyHeld s
  | .held, false => okWith .newlyHeld (s.modPoint i fun d => { d with holdMaster := true })
  | _, _ => refuse .state s

/-- RESUME (R68). -/
def answerResume (i : Nat) : State → State × Answer := atPoint i fun s =>
  match (s.point i).state, (s.point i).holdMaster with
  | .held, true =>
    let s := s.modPoint i fun d => { d with holdMaster := false }
    if (s.point i).holdSpill then okWith .stillHeld s else okWith .resumed (enterStarting i s)
  | _, _ => refuse .state s

/-- ABORT (R71). -/
def answerAbort (i : Nat) : State → State × Answer := atPoint i fun s =>
  match (s.point i).state with
  | .starting | .flowing | .held => okay (enterClosing i .aborted s)
  | .authorized => okay (dropGrant i s)
  | _ => refuse .state s

/-- The state a point comes back into service in (R48, R49). -/
def inServiceState (s : State) (i : Nat) : PointState := if s.env.nozzles.getD i false then .ended else .idle

/-- POINT SERVICE out (R49). -/
def pointOut (i : Nat) (s : State) : State × Answer :=
  match (s.point i).state with
  | .idle =>
    okay ((s.modPoint i fun d =>
      { d with state := .outOfService, inService := false, reason := some .configuredOut }).touch (.point i))
  | .outOfService => okay s
  | _ => refuse .busy s

/-- POINT SERVICE in (R49). -/
def pointIn (i : Nat) (s : State) : State × Answer :=
  let d := s.point i
  if d.state = .outOfService then
    if d.reason = some .unconfigured ∨ d.reason = some .damaged then refuse .state s
    else
      okay ((s.setPoint i
        { d with
          state := inServiceState s i, inService := true, reason := none, passing := false, creep := 0
          creepTold := false }).touch (.point i))
  else okay s

/-- POINT SERVICE (R49); a direction that R203 gives no meaning is out of range (DESIGN CHOICE:
notes/assumptions/10.md). -/
def answerPointService (i direction : Nat) : State → State × Answer := atPoint i fun s =>
  match direction with
  | 0 => pointOut i s
  | 1 => pointIn i s
  | _ => refuse .range s

/-! ## POINT SET (R48) -/

/-- A setting within its range. -/
def within (lo hi n : Nat) : Bool := decide (lo ≤ n ∧ n ≤ hi)

/-- Every setting inside its range in the table of 3.1. -/
def pointSettingsOk (c : PointSettings) : Bool :=
  within 0 4 c.island && within 1 6 c.zone && within 1 8 c.tank && within 1000 200000 c.k100 &&
    within 100 150000 c.maxFlow && within 10 100000 c.minDispense && within c.minDispense 2000000 c.maxDispense &&
    within 0 10000 c.slowdown && within 10 2000000 c.lubePreset && within 10 600 c.authTimeout &&
    within 5 300 c.noFlow && within 10 1800 c.holdLimit && within 1 10 c.quietTime &&
    within 1 10000 c.passingAllowance

/-- The STATE check of R48, step 4. -/
def pointSetBlocked (s : State) (c : PointSettings) : Bool :=
  decide ((s.tank c.tank).status = .out .unconfigured ∨ (s.tank c.tank).status = .out .damaged) ||
    !(s.zone c.zone).configured

/-- What an accepted POINT SET makes of the point by the table of R48. -/
def pointAfterSet (s : State) (i : Nat) (c : PointSettings) (flag : Bool) : Point :=
  let d := { s.point i with settings := c, inService := flag }
  if flag then
    if d.state = .outOfService then
      { d with state := inServiceState s i, reason := none, passing := false, creep := 0, creepTold := false }
    else d
  else { d with state := .outOfService, reason := some .configuredOut }

/-- An accepted POINT SET (R48): a point that it leaves CONFIGURED_OUT with its passing mark set takes reason PASSING
(R77). DEDUCED: notes/assumptions/29.md. -/
def pointSetTo (i : Nat) (c : PointSettings) (flag : Bool) (s : State) : State :=
  let s := (s.setPoint i (pointAfterSet s i c flag)).touch (.point i)
  if flag = false ∧ (s.point i).passing = true then takePassing i s else s

/-- POINT SET (R48). -/
def answerPointSet (i : Nat) (c : PointSettings) (flag : Bool) : State → State × Answer := atPoint i fun s =>
  if (s.point i).state ≠ .idle ∧ (s.point i).state ≠ .outOfService then refuse .busy s
  else if pointSettingsOk c = false then refuse .range s
  else if flag = true ∧ pointSetBlocked s c = true then refuse .state s
  else okay (pointSetTo i c flag s)

/-! ## The nozzle (R54, R55, R74) -/

/-- The nozzle switch of a point. -/
def setNozzle (i : Nat) (lifted : Bool) (s : State) : State :=
  { s with env := { s.env with nozzles := s.env.nozzles.set i lifted } }

/-- The checks of R55 at a lift under a permitting visit: the display of the first that fails. -/
def liftRefused (s : State) (i : Nat) (a : Option Account) (preset : Nat) : Option Display :=
  let d := s.point i
  let k := s.tank d.settings.tank
  if k.inServiceB = false then some ⟨.refused, 1⟩
  else if k.pump.state = .fault then some ⟨.refused, 2⟩
  else if pointStopped s i then some ⟨.stopped, i⟩
  else if (a.map fun c => c.state) ≠ some .active then some ⟨.refused, 3⟩
  else if s.log.free = 0 then some ⟨.logFull, 0⟩
  else if preset < d.settings.minDispense then some ⟨.refused, 1⟩
  else none

/-- A grant taken under a visit at a lift (R55): the dispense starts at once. -/
def visitLift (i island : Nat) (v : Visit) (s : State) : State :=
  let a := s.account? v.account
  let preset := presetOf s i a 0
  match liftRefused s i a preset.1 with
  | some m => requestDisplay island m.code m.arg s
  | none =>
    let g : Grant :=
      { account := some v.account, origin := .visit, preset := preset.1, limit := preset.2, service := false
        bayUse := false, granted := s.now, visit := some island }
    startDispense i (visitGrant island i (takeGrant i g s))

/-- A lift at a point in IDLE (R55). -/
def idleLift (i : Nat) (s : State) : State :=
  let island := (s.point i).settings.island
  match if island = 0 then none else (s.island island).visit with
  | none => raise .unauthorizedLift .point i 1 island s
  | some v =>
    match permitRefusal s (s.island island) v with
    | some why => raise .unauthorizedLift .point i why island s
    | none => visitLift i island v s

/-- A lift at a point (R54). -/
def lift (i : Nat) (s : State) : State :=
  match (s.point i).state with
  | .idle => idleLift i s
  | .authorized => startDispense i s
  | _ => s

/-- A hang at a point (R74). -/
def hang (i : Nat) (s : State) : State :=
  match (s.point i).state with
  | .starting | .flowing | .held => enterClosing i .hung s
  | .ended =>
    let s := s.modPoint i fun d => Point.cleared d
    if (s.point i).passing then takePassing i s else s.modPoint i fun d => { d with state := .idle }
  | _ => s

/-- A change of the nozzle switch: a level that does not change is no lift and no hang. DEDUCED:
notes/assumptions/22.md. -/
def nozzleEvent (i : Nat) (lifted : Bool) (f : State → State) (s : State) : Host.Outcome State Fault Refusal :=
  let was := s.env.nozzles.getD i false
  takenAt 12 i (fun s => if was = lifted then s else f s) (setNozzle i lifted s)

/-! ## The meter (R62, R72, R76) -/

/-- A pulse at a point. -/
def meterPulse (i : Nat) (s : State) : State :=
  match (s.point i).state with
  | .flowing => pulseFlowing i (pulseSave i (s.modPoint i countPulse))
  | .held => creepPulse i (pulseSave i (s.modPoint i countPulse))
  | .closing =>
    pulseSave i (s.modPoint i fun d => { countPulse d with quietLeft := some d.settings.quietTime })
  | .outOfService | .idle | .authorized | .starting | .ended => creepPulse i s

/-! ## The timers of a point

An expiry is taken when its timer has run out (DESIGN CHOICE: notes/assumptions/1.md). -/

/-- The authorization timer expires (R57). -/
def authorizationEnds (i : Nat) (s : State) : State :=
  let d := s.point i
  if d.state = .authorized ∧ d.authLeft = some 0 then
    let preset := match d.grant with
      | some g => g.preset
      | none => 0
    raise .grantExpired .point i (grantAccount d) preset (dropGrant i s)
  else s

/-- The no-flow timer expires (R64). -/
def noFlowEnds (i : Nat) (s : State) : State :=
  if (s.point i).state = .flowing ∧ (s.point i).noFlowLeft = some 0 then enterClosing i .noFlow s else s

/-- The hold timer expires (R66). -/
def holdEnds (i : Nat) (s : State) : State :=
  if (s.point i).state = .held ∧ (s.point i).holdLeft = some 0 then enterClosing i .holdExpired s else s

/-- The quiet timer expires (R72). -/
def quietEnds (i : Nat) (s : State) : State :=
  if (s.point i).state = .closing ∧ (s.point i).quietLeft = some 0 then completeDispense i s else s

/-- The closing maximum expires (R72). -/
def maximumEnds (i : Nat) (s : State) : State :=
  if (s.point i).state = .closing ∧ (s.point i).maxLeft = some 0 then closingPassed i s else s

/-! ## Meanings -/

/-- AUTHORIZE (R52, R53). -/
def execAuthorize (p : PortId) (i account requested : Nat) (service bayUse : Bool) (s : State) :
    Host.Outcome State Fault Refusal :=
  command p 0x20 (answerAuthorize p i account requested service bayUse) s

/-- CANCEL (R57). -/
def execCancel (p : PortId) (i : Nat) (s : State) : Host.Outcome State Fault Refusal :=
  command p 0x21 (answerCancel i) s

/-- HOLD (R67). -/
def execHold (p : PortId) (i : Nat) (s : State) : Host.Outcome State Fault Refusal := command p 0x22 (answerHold i) s

/-- RESUME (R68). -/
def execResume (p : PortId) (i : Nat) (s : State) : Host.Outcome State Fault Refusal :=
  command p 0x23 (answerResume i) s

/-- ABORT (R71). -/
def execAbort (p : PortId) (i : Nat) (s : State) : Host.Outcome State Fault Refusal := command p 0x24 (answerAbort i) s

/-- POINT_SERVICE (R49). -/
def execPointService (p : PortId) (i direction : Nat) (s : State) : Host.Outcome State Fault Refusal :=
  command p 0x25 (answerPointService i direction) s

/-- POINT_SET (R48). -/
def execPointSet (p : PortId) (i : Nat) (c : PointSettings) (flag : Bool) (s : State) :
    Host.Outcome State Fault Refusal :=
  command p 0x60 (answerPointSet i c flag) s

/-- NOZZLE_LIFT (R54, R55). -/
def execNozzleLift (i : Nat) (s : State) : Host.Outcome State Fault Refusal := nozzleEvent i true (lift i) s

/-- NOZZLE_HANG (R74). -/
def execNozzleHang (i : Nat) (s : State) : Host.Outcome State Fault Refusal := nozzleEvent i false (hang i) s

/-- METER_PULSE (R62, R76). -/
def execMeterPulse (i : Nat) (s : State) : Host.Outcome State Fault Refusal := takenAt 12 i (meterPulse i) s

/-- AUTHORIZATION_TIMEOUT (R57). -/
def execAuthorizationTimeout (i : Nat) (s : State) : Host.Outcome State Fault Refusal :=
  takenAt 12 i (authorizationEnds i) s

/-- NO_FLOW_TIMEOUT (R64). -/
def execNoFlowTimeout (i : Nat) (s : State) : Host.Outcome State Fault Refusal := takenAt 12 i (noFlowEnds i) s

/-- RATE_WINDOW_EXPIRY (R65). -/
def execRateWindowExpiry (i : Nat) (s : State) : Host.Outcome State Fault Refusal :=
  takenAt 12 i (fun s => if (s.point i).rateLeft = some 0 then rateWindowEnds i s else s) s

/-- HOLD_TIMER_EXPIRY (R66). -/
def execHoldTimerExpiry (i : Nat) (s : State) : Host.Outcome State Fault Refusal := takenAt 12 i (holdEnds i) s

/-- CLOSING_QUIET_EXPIRY (R72, R73). -/
def execClosingQuietExpiry (i : Nat) (s : State) : Host.Outcome State Fault Refusal := takenAt 12 i (quietEnds i) s

/-- CLOSING_MAXIMUM_EXPIRY (R72). -/
def execClosingMaximumExpiry (i : Nat) (s : State) : Host.Outcome State Fault Refusal :=
  takenAt 12 i (maximumEnds i) s

end Sys2Proof.Machine
end

