-- ==== Sys2Proof/Machine/Islands.lean ====
section
/-! DEFINITION. The events of the island lines and of the visits, and ISLAND SET (04). -/

namespace Sys2Proof.Machine

/-! ## Exchanges (R82 to R88) -/

/-- The poll timer expires (R82). -/
def pollExpires (i : Nat) (s : State) : State :=
  let d := s.island i
  if d.pollLeft.isSome then lineService i (s.setIsland i { d with pollLeft := none, pollDue := true }) else s

/-- A failed try of a poll exchange (R84, R85), with its kind. -/
def pollFails (i kind fails : Nat) (s : State) : State :=
  let d := s.island i
  if d.line ≠ .fault ∧ fails + 1 < 3 then
    s.setIsland i { d with exchange := some (.poll (fails + 1)), sent := some .repeatLast }
  else lineFails i kind 0 s

/-- A reply that is not good reaches the exchange in progress (R83, R88). -/
def badReply (i kind : Nat) (s : State) : State :=
  match (s.island i).exchange with
  | none => s
  | some (.poll n) => pollFails i kind n s
  | some (.display m) => lineFails i 4 (displayNumber m.code) s

/-- A good reply to a poll is taken by `f` after the line has become ONLINE, and the exchange ends; a reply that is
not the ACK of a display fails the display; a reply outside an exchange is void (R83, R85, R88). DESIGN CHOICE:
notes/assumptions/25.md. -/
def goodReply (i : Nat) (f : State → State) (s : State) : State :=
  match (s.island i).exchange with
  | none => s
  | some (.poll _) => endPoll i (f (lineOnline i s))
  | some (.display m) => lineFails i 4 (displayNumber m.code) s

/-- The unit status becomes OK (R83). -/
def unitOk (i : Nat) (s : State) : State := s.modIsland i fun d => { d with unitFaulted := false }

/-- A UNIT_FAULT reply taken (R86). DESIGN CHOICE: notes/assumptions/40.md. -/
def unitFaults (i code : Nat) (s : State) : State :=
  let d := s.island i
  let s := s.setIsland i { d with unitFaulted := true }
  if d.unitFaulted then s else raise .islandUnitFault .island i code 0 s

/-- An ACK (R88); to a poll it is a LENGTH failure (R83). DESIGN CHOICE: notes/assumptions/25.md. -/
def ackReply (i : Nat) (s : State) : State :=
  match (s.island i).exchange with
  | none => s
  | some (.poll n) => pollFails i 2 n s
  | some (.display m) => lineService i (s.modIsland i fun d => { d with exchange := none, lastAck := some m })

/-! ## Tags and keys (R90 to R93) -/

/-- A visit opens (R92). -/
def openVisit (i a : Nat) (c : Account) (hours : Option Nat) (s : State) : State :=
  let v : Visit :=
    { account := a, opened := s.now, hour := .pending, reading := none, delta := none, attempts := 0, list := []
      phase := .waitingHours, idle := some (s.island i).idleTime, endReason := none, lastRefusal := none }
  match c.hourSource, hours with
  | .none, _ =>
    requestDisplay i .ready a (s.modIsland i fun d =>
      { d with visit := some { v with hour := .notNeeded, phase := .ready } })
  | .tag, some h => visitReading i h (s.modIsland i fun d => { d with visit := some v })
  | _, _ => requestDisplay i .enterHours 3 (s.modIsland i fun d => { d with visit := some v })

/-- Whether the visit of an island, if any, has an active dispense. -/
def visitBusy (s : State) (i : Nat) : Bool :=
  match (s.island i).visit with
  | some v => v.busy
  | none => false

/-- A tag that matches an ACTIVE account (R91, case 4). -/
def tagActive (i a : Nat) (c : Account) (hours : Option Nat) (s : State) : State :=
  let replace := fun s => openVisit i a c hours (endVisit i .replaced true s)
  match s.visitOf a with
  | some j =>
    if j = i then replace s
    else if visitBusy s j then requestDisplay i .wait 0 s
    else replace (endVisit j .replaced false s)
  | none => replace s

/-- A good TAG reply taken by its island (R90, R91). DESIGN CHOICE: notes/assumptions/40.md. -/
def tagTaken (i : Nat) (identity : BitVec 64) (hours : Option Nat) (s : State) : State :=
  if s.closedSwitch i then requestDisplay i .closed 0 s
  else if visitBusy s i then requestDisplay i .wait 0 s
  else
    match s.findTag? identity with
    | none => raise .unknownTag .island i 0 0 (requestDisplay i .unknownTag 0 s)
    | some (a, c) =>
      if c.state = .barred then
        let s := endVisit i .replaced true s
        raise .tagBarred .island i a 0 (requestDisplay i .refused 3 s)
      else tagActive i a c hours s

/-- The number that keyed digits spell (R93). -/
def digitsValue (l : List Nat) : Nat := l.foldl (fun n d => n * 10 + d) 0

/-- A good KEYS reply taken by the island's visit (R93). -/
def keysTaken (i : Nat) (digits : List Nat) (s : State) : State :=
  match (s.island i).visit with
  | none => s
  | some v =>
    if v.phase = .waitingHours ∧ digits ≠ [] then
      visitReading i (digitsValue digits) (s.modIsland i fun d =>
        { d with visit := some { v with idle := v.idle.map fun _ => d.idleTime } })
    else s

/-- Keys that a good KEYS reply can carry (R83). -/
def keysOk (digits : List Nat) : Bool := decide (digits.length ≤ 7) && digits.all fun d => decide (d ≤ 9)

/-- A KEYS reply: with a count above 7 or a digit above 9 it is a LENGTH failure (R83). -/
def keysReply (i : Nat) (digits : List Nat) (s : State) : State :=
  if keysOk digits then goodReply i (fun s => keysTaken i digits (unitOk i s)) s else badReply i 2 s

/-- A reply whose bytes are complete, after 5 ms of silence (R83): PARITY for a byte in error (R81), else as its bytes
read. DESIGN CHOICE: notes/assumptions/25.md. -/
def quietReply (i : Nat) (bytes : List LineByte) (s : State) : State :=
  match readLineReply bytes with
  | .error kind => badReply i kind s
  | .ok .idle => goodReply i (unitOk i) s
  | .ok (.tag identity hours) => goodReply i (fun s => tagTaken i identity hours (unitOk i s)) s
  | .ok (.keys digits) => keysReply i digits s
  | .ok (.unitFault code) => goodReply i (unitFaults i code) s
  | .ok .ack => ackReply i s

/-! ## The closed switch, the idle timer and ISLAND SET -/

/-- The closed switch of an island. -/
def setClosed (i : Nat) (closed : Bool) (s : State) : State :=
  { s with env := { s.env with closed := s.env.closed.set i closed } }

/-- A change of the closed switch (R90). -/
def closedChanged (i : Nat) (closed : Bool) (s : State) : State :=
  if closed then requestDisplay i .closed 0 s else requestStanding i false s

/-- The idle timer of a visit expires (R96). An expiry that finds the timer started afresh, as a TAG that replaced the
visit or a KEYS entry taken first leaves it, is void. -/
def visitIdleEnds (i : Nat) (s : State) : State :=
  match (s.island i).visit with
  | some v => if v.idle = some 0 then endVisit i .idle false s else s
  | none => s

/-- What an accepted ISLAND SET makes of an island (R80). -/
def islandAfterSet (d : Island) (flag : Bool) (idleTime : Nat) : Island :=
  let e := { d with configured := flag, idleTime := idleTime }
  if flag = false then
    { e with line := .unknown, exchange := none, pendingDisplay := none, pollLeft := none, pollDue := false }
  else if d.configured then e
  else { e with line := .unknown, unitFaulted := false, pollLeft := some Config.pollTime, pollDue := false }

/-- ISLAND SET (R80). -/
def answerIslandSet (i : Nat) (flag : Bool) (idleTime : Nat) (s : State) : State × Answer :=
  if ¬ (1 ≤ i ∧ i ≤ 4) then refuse .unknown s
  else if within 10 600 idleTime = false then refuse .range s
  else if flag = false ∧ (s.island i).visit.isSome = true then refuse .busy s
  else okay ((s.setIsland i (islandAfterSet (s.island i) flag idleTime)).touch (.island i))

/-! ## Meanings -/

/-- POLL_TIMER_EXPIRY (R82). -/
def execPollTimerExpiry (i : Nat) (s : State) : Host.Outcome State Fault Refusal := takenAt 4 i (pollExpires i) s

/-- IDLE_REPLY (R83). -/
def execIdleReply (i : Nat) (s : State) : Host.Outcome State Fault Refusal :=
  takenAt 4 i (goodReply i (unitOk i)) s

/-- TAG (R83, R91). -/
def execTag (i : Nat) (identity : BitVec 64) (hours : Option Nat) (s : State) : Host.Outcome State Fault Refusal :=
  takenAt 4 i (goodReply i fun s => tagTaken i identity hours (unitOk i s)) s

/-- KEYS (R83, R93). -/
def execKeys (i : Nat) (digits : List Nat) (s : State) : Host.Outcome State Fault Refusal :=
  takenAt 4 i (keysReply i digits) s

/-- UNIT_FAULT (R86). -/
def execUnitFault (i code : Nat) (s : State) : Host.Outcome State Fault Refusal :=
  takenAt 4 i (goodReply i (unitFaults i code)) s

/-- ACK (R88). -/
def execAck (i : Nat) (s : State) : Host.Outcome State Fault Refusal := takenAt 4 i (ackReply i) s

/-- ISLAND_REPLY_BAD (R81, R83): PARITY, kind 1, for a byte in error, else LENGTH, kind 2. -/
def execIslandReplyBad (i : Nat) (bytes : List LineByte) (s : State) : Host.Outcome State Fault Refusal :=
  takenAt 4 i (badReply i (if bytes.any LineByte.inError then 1 else 2)) s

/-- ISLAND_REPLY_TIMEOUT (R83). -/
def execIslandReplyTimeout (i : Nat) (s : State) : Host.Outcome State Fault Refusal := takenAt 4 i (badReply i 3) s

/-- ISLAND_REPLY_QUIET (R83). -/
def execIslandReplyQuiet (i : Nat) (bytes : List LineByte) (s : State) : Host.Outcome State Fault Refusal :=
  takenAt 4 i (quietReply i bytes) s

/-- ISLAND_CLOSED_SWITCH (R90): a level that does not change is no change. -/
def execIslandClosedSwitch (i : Nat) (closed : Bool) (s : State) : Host.Outcome State Fault Refusal :=
  let was := s.closedSwitch i
  takenAt 4 i (fun s => if was = closed then s else closedChanged i closed s) (setClosed i closed s)

/-- VISIT_IDLE_TIMEOUT (R96). -/
def execVisitIdleTimeout (i : Nat) (s : State) : Host.Outcome State Fault Refusal := takenAt 4 i (visitIdleEnds i) s

/-- ISLAND_SET (R80). -/
def execIslandSet (p : PortId) (i : Nat) (flag : Bool) (idleTime : Nat) (s : State) :
    Host.Outcome State Fault Refusal :=
  command p 0x61 (answerIslandSet i flag idleTime) s

end Sys2Proof.Machine
end

