-- ==== Sys2Proof/Machine/Accounts.lean ====
section
/-! DEFINITION. The commands on machine accounts (05): ACCOUNT SET, BAR, UNBAR, VACATE, ENTER HOURS, FIELD TRANSFER,
SET SERVICE and SERVICE DONE. -/

namespace Sys2Proof.Machine

/-- Whether the bay list holds MEMORY_FAULT (R113, R116, R137, R159). -/
def State.memoryFault (s : State) : Bool := s.bay.causes.any fun c => c.kind == .memoryFault

/-- Whether a point holds a grant on the account or an island a visit of it (R103, R120). -/
def State.engaged (s : State) (a : Nat) : Bool := !(s.grantsOn a).isEmpty || (s.visitOf a).isSome

/-! ## ACCOUNT SET (R103, R104) -/

/-- The limits of the three rollover values (5.1). -/
def rolloverOk : Option Nat → Bool
  | none => true
  | some m => m == 100000 || m == 1000000 || m == 10000000

/-- The meter reading that ACCOUNT SET leaves the account with (R103). -/
def meterAfter (c : Option Account) (x : AccountArgs) : Nat :=
  match c with
  | some c => if x.replaced then x.meter else c.meter
  | none => x.meter

/-- The RANGE checks of R103, step 3. -/
def accountArgsOk (c : Option Account) (x : AccountArgs) : Bool :=
  (accountClassOfCode x.cls).isSome && (hourSourceOfCode x.hourSource).isSome && within 1000 2000000 x.capacity &&
    rolloverOk x.rollover && within 0 9999999 x.meter &&
    (match x.band with
      | some (lo, hi) => decide (lo ≤ hi) && within 0 100000 hi
      | none => true) &&
    (match x.limp with
      | some q => within 10 x.capacity q
      | none => true) &&
    match x.rollover with
    | some m => decide (meterAfter c x < m)
    | none => true

/-- Whether another ACTIVE or BARRED account carries the tag (R103, step 4). -/
def tagTakenBy (s : State) (a : Nat) (tag : BitVec 64) : Bool :=
  s.accounts.any fun e => e.1 != a && e.2.tag == tag && e.2.state != .damaged

/-- An account as it is created (R104), with the configuration still to be given. -/
def freshAccount (cls : AccountClass) (meter : Nat) : Account :=
  { state := .active, tag := 0, cls := cls, capacity := 0, hourSource := .none, hoursRequired := false
    rollover := none, meter := meter, life := meter, lastTime := none, pending := 0, fuelTotal := 0, lube := {}
    band := none, lastRate := none, limp := none, grace := 0, entries := []
    carried := if cls = .service then some 0 else none }

/-- The configuration fields of ACCOUNT SET given to an account (R104). -/
def configured (c : Account) (cls : AccountClass) (source : HourSource) (x : AccountArgs) : Account :=
  { c with
    tag := x.tag, cls := cls, capacity := x.capacity, hourSource := source, hoursRequired := x.hoursRequired
    rollover := x.rollover, band := x.band, limp := x.limp }

/-- An accepted ACCOUNT SET on an existing account (R104). -/
def changed (c : Account) (cls : AccountClass) (source : HourSource) (x : AccountArgs) : Account :=
  let c := configured c cls source x
  if x.replaced then { c with meter := x.meter, lastTime := none } else c

/-- ACCOUNT SET on an account that is VACANT (none), ACTIVE or BARRED, its ranges checked (R103 steps 4 to 6, R104). -/
def accountSetTo (a : Nat) (c : Option Account) (cls : AccountClass) (source : HourSource) (x : AccountArgs)
    (s : State) : State × Answer :=
  if tagTakenBy s a x.tag then refuse .range s
  else
    match c with
    | none => okay (s.setAccount a (configured (freshAccount cls x.meter) cls source x))
    | some c =>
      if (c.tag ≠ x.tag ∨ c.cls ≠ cls) ∧ s.engaged a = true then refuse .busy s
      else if c.cls ≠ cls ∧ (c.cls = .service ∨ cls = .service) then refuse .state s
      else okay (s.setAccount a (changed c cls source x))

/-- ACCOUNT SET (R103, R104). -/
def answerAccountSet (a : Nat) (x : AccountArgs) (s : State) : State × Answer :=
  if 511 < a then refuse .unknown s
  else
    let c := s.account? a
    if (c.map fun c => c.state) = some .damaged then refuse .state s
    else if accountArgsOk c x = false then refuse .range s
    else
      match accountClassOfCode x.cls, hourSourceOfCode x.hourSource with
      | some cls, some source => accountSetTo a c cls source x s
      | _, _ => refuse .range s

/-! ## BAR, UNBAR, VACATE (R118 to R120, R98) -/

/-- An account that is not VACANT, named by a command. -/
def atAccount (a : Nat) (f : Account → State → State × Answer) (s : State) : State × Answer :=
  match s.account? a with
  | none => refuse .unknown s
  | some c => if 511 < a then refuse .unknown s else f c s

/-- The bar reaches a point: a grant in AUTHORIZED on the account is dropped (R58). -/
def barPoint (a i : Nat) (s : State) : State :=
  let d := s.point i
  if d.state = .authorized ∧ (s.grantsOn a).contains i = true then dropFor i 3 s else s

/-- The bar reaches an island: the visit of the account ends, or goes to ENDING (R98). -/
def barVisit (a i : Nat) (s : State) : State :=
  match (s.island i).visit with
  | none => s
  | some v =>
    if v.account ≠ a then s
    else if v.busy then
      s.modIsland i fun d =>
        { d with visit := some { v with phase := .ending, idle := none, endReason := some .barred } }
    else endVisit i .barred false s

/-- ACCOUNT BAR (R118). DESIGN CHOICE: notes/assumptions/7.md. -/
def answerAccountBar (a : Nat) : State → State × Answer := atAccount a fun c s =>
  match c.state with
  | .barred => okay s
  | .damaged => refuse .state s
  | .active =>
    let s := s.setAccount a { c with state := .barred }
    okay (forEach 4 (barVisit a) (forEach 12 (barPoint a) s))

/-- ACCOUNT UNBAR (R119). -/
def answerAccountUnbar (a : Nat) : State → State × Answer := atAccount a fun c s =>
  match c.state with
  | .active => okay s
  | .damaged => refuse .state s
  | .barred => okay (s.setAccount a { c with state := .active })

/-- VACATE (R120). -/
def answerVacate (a : Nat) : State → State × Answer := atAccount a fun c s =>
  let vacant := { s with accounts := removeNat s.accounts a }
  if c.state = .damaged then okay vacant
  else if s.engaged a then refuse .busy s
  else if c.cls = .service ∧ 0 < c.carried.getD 0 then refuse .state s
  else okay vacant

/-! ## Hours and transfers (R107, R116, R117) -/

/-- ENTER HOURS (R107). -/
def answerEnterHours (a h : Nat) : State → State × Answer := atAccount a fun c s =>
  if c.state = .damaged then refuse .state s
  else if (s.visitOf a).isSome then refuse .busy s
  else
    let r := takeReading a c h s
    match r.2 with
    | .accepted _ => okWith (.hours r.2) (r.1.modAccount a fun c => { c with pending := 0, lastRate := none })
    | .refused _ => okWith (.hours r.2) r.1

/-- The checks of R116; a quantity of 0 is outside the range of the argument (DESIGN CHOICE: notes/assumptions/10.md).
-/
def transferStatus (sv x q : Nat) (h : Option Nat) (s : State) : Option Status :=
  match s.account? sv, s.account? x with
  | some a, some b =>
    if 511 < sv ∨ 511 < x then some .unknown
    else if a.state = .damaged ∨ a.cls ≠ .service ∨ b.state = .damaged ∨ sv = x then some .state
    else if h.isSome = true ∧ (s.visitOf x).isSome = true then some .busy
    else if q = 0 ∨ a.carried.getD 0 < q then some .range
    else if s.memoryFault then some .stopped
    else if s.log.free = 0 then some .full
    else none
  | _, _ => some .unknown

/-- The quantity moved from the carried balance of S to the totals of X (R117, steps 1 and 2). -/
def moveFuel (sv x q : Nat) (s : State) : State :=
  let s := s.modAccount sv fun a => { a with carried := some (a.carried.getD 0 - q) }
  s.modAccount x fun b => { b with fuelTotal := sat32 (b.fuelTotal + q), pending := sat32 (b.pending + q) }

/-- The reading of a transfer judged (R117, step 3): the state, the outcome and the burn rate computed. -/
def transferReading (x : Nat) (h : Option Nat) (s : State) : State × Option HourOutcome × Option Nat :=
  match h, s.account? x with
  | some h, some b =>
    let r := takeReading x b h s
    match r.2 with
    | .accepted d =>
      if d = 0 ∨ b.cls = .service then (r.1, some r.2, none)
      else (closeBurn x d r.1, some r.2, some (burnRate b.pending d))
    | .refused _ => (r.1, some r.2, none)
  | _, _ => (s, none, none)

/-- FIELD TRANSFER (R116, R117). -/
def answerFieldTransfer (p : PortId) (sv x q : Nat) (h : Option Nat) (s : State) : State × Answer :=
  match transferStatus sv x q h s with
  | some st => refuse st s
  | none =>
    let s := moveFuel sv x q s
    let r := transferReading x h s
    let carried := ((s.account? sv).bind fun a => a.carried).getD 0
    let ticket := r.1.log.ticket
    let body : RecordBody := .transfer
      { service := sv, machine := x, quantity := q, carriedAfter := carried, port := p
        reading := h.bind fun h => r.2.1.map fun o => (h, o), rate := r.2.2 }
    okWith (.transfer ticket carried r.2.1) (writeDirect body r.1)

/-! ## Service (R112, R113) -/

/-- One entry of SET SERVICE in range (R112, step 3). -/
def serviceArgOk (life : Nat) (e : ServiceArgs) : Bool :=
  (classOfCode e.cls).isSome && within 10 1000000 e.interval &&
    match e.since with
    | some n => decide (n ≤ life)
    | none => true

/-- Whether no class is given twice. -/
def noRepeats : List Nat → Bool
  | [] => true
  | x :: rest => !rest.contains x && noRepeats rest

/-- A new entry from its arguments and the old list (R112). -/
def newEntry (c : Account) (e : ServiceArgs) : ServiceEntry :=
  let cls := (classOfCode e.cls).getD .fuel
  let old := c.entries.find? fun o => o.cls == cls
  { cls := cls, interval := e.interval
    last := match e.since, old with
      | some n, _ => c.life - n
      | none, some o => o.last
      | none, none => c.life
    state := match old with
      | some o => o.state
      | none => .ok }

/-- The states of an account's entries. -/
def entryStates (s : State) (a : Nat) : List ServiceState :=
  match s.account? a with
  | some c => c.entries.map fun e => e.state
  | none => []

/-- SET SERVICE (R112). -/
def answerSetService (a grace : Nat) (l : List ServiceArgs) : State → State × Answer := atAccount a fun c s =>
  if c.state = .damaged then refuse .state s
  else if 6 < l.length ∨ within 0 100000 grace = false ∨ (l.all (serviceArgOk c.life)) = false ∨
      noRepeats (l.map fun e => e.cls) = false then refuse .range s
  else
    let s := evaluateServices a (s.setAccount a { c with grace := grace, entries := l.map (newEntry c) })
    okWith (.serviceStates (entryStates s a)) s

/-- SERVICE DONE on an entry of the account (R113). -/
def serviceDone (p : PortId) (a : Nat) (c : Account) (e : ServiceEntry) (s : State) : State × Answer :=
  let s := evaluateServices a (s.setAccount a
    { c with entries := c.entries.map fun o => if o.cls = e.cls then { o with last := c.life } else o })
  let body : RecordBody := .service
    { account := a, cls := e.cls, life := c.life, since := c.life - e.last, before := e.state, port := p }
  okWith (.ticket s.log.ticket) (writeDirect body s)

/-- SERVICE DONE (R113). -/
def answerServiceDone (p : PortId) (a cls : Nat) : State → State × Answer := atAccount a fun c s =>
  if c.state = .damaged then refuse .state s
  else
    match (classOfCode cls).bind fun k => c.entries.find? fun e => e.cls == k with
    | none => refuse .range s
    | some e =>
      if s.memoryFault then refuse .stopped s
      else if s.log.free = 0 then refuse .full s
      else serviceDone p a c e s

/-! ## Meanings -/

/-- ACCOUNT_SET (R103, R104). -/
def execAccountSet (p : PortId) (a : Nat) (x : AccountArgs) (s : State) : Host.Outcome State Fault Refusal :=
  command p 0x28 (answerAccountSet a x) s

/-- ACCOUNT_BAR (R118). -/
def execAccountBar (p : PortId) (a : Nat) (s : State) : Host.Outcome State Fault Refusal :=
  command p 0x29 (answerAccountBar a) s

/-- ACCOUNT_UNBAR (R119). -/
def execAccountUnbar (p : PortId) (a : Nat) (s : State) : Host.Outcome State Fault Refusal :=
  command p 0x2A (answerAccountUnbar a) s

/-- VACATE (R120). -/
def execVacate (p : PortId) (a : Nat) (s : State) : Host.Outcome State Fault Refusal :=
  command p 0x2B (answerVacate a) s

/-- ENTER_HOURS (R107). -/
def execEnterHours (p : PortId) (a h : Nat) (s : State) : Host.Outcome State Fault Refusal :=
  command p 0x2C (answerEnterHours a h) s

/-- FIELD_TRANSFER (R116, R117). -/
def execFieldTransfer (p : PortId) (sv x q : Nat) (h : Option Nat) (s : State) : Host.Outcome State Fault Refusal :=
  command p 0x2D (answerFieldTransfer p sv x q h) s

/-- SET_SERVICE (R112). -/
def execSetService (p : PortId) (a grace : Nat) (l : List ServiceArgs) (s : State) :
    Host.Outcome State Fault Refusal :=
  command p 0x30 (answerSetService a grace l) s

/-- SERVICE_DONE (R113). -/
def execServiceDone (p : PortId) (a cls : Nat) (s : State) : Host.Outcome State Fault Refusal :=
  command p 0x31 (answerServiceDone p a cls) s

end Sys2Proof.Machine
end

