-- ==== Sys2Proof/Machine/Tanks.lean ====
section
/-! DEFINITION. The commands on products, tanks, strap tables and pumps (02): PRODUCT SET, TANK SET, STAGE STRAP,
APPLY STRAP and RESET PUMP. -/

namespace Sys2Proof.Machine

/-- A tank busy with a grant, a delivery or an open window (R44, R45, R137). -/
def State.tankBusy (s : State) (t : Nat) : Bool :=
  s.tankGranted t || (s.stationFor t).isSome || (s.tank t).window.isOpen

/-- A tank that keeps its product's class (R19): a grant committed against it, a delivery, or an open window. -/
def State.classHeld (s : State) (t : Nat) : Bool :=
  !(s.tank t).commitments.isEmpty || (s.stationFor t).isSome || (s.tank t).window.isOpen

/-! ## PRODUCT SET (R19) -/

/-- PRODUCT SET with its class read (R19). -/
def productSetTo (n : Nat) (c : ProductClass) (alpha : Nat) (s : State) : State × Answer :=
  if (s.product n).cls ≠ c ∧
      ((numbers 8).any fun t => (s.tank t).settings.product == n && s.classHeld t) = true then refuse .busy s
  else okay ((s.setProduct n ⟨true, c, alpha⟩).touch (.product n))

/-- PRODUCT SET (R19). -/
def answerProductSet (n cls alpha : Nat) (s : State) : State × Answer :=
  if ¬ (1 ≤ n ∧ n ≤ 8) then refuse .unknown s
  else
    match classOfCode cls with
    | none => refuse .range s
    | some c => if 2000 < alpha then refuse .range s else productSetTo n c alpha s

/-! ## TANK SET (R45, R46) -/

/-- Every setting inside its range in the table of 2.2. DESIGN CHOICE: notes/assumptions/10.md. -/
def tankSettingsOk (c : TankSettings) : Bool :=
  within 1 8 c.product && within 1 6 c.zone && within 1 63 c.probe && within 1 max32 c.capacity &&
    within 1 c.capacity c.highLimit && within 0 c.capacity c.lowCutoff && within 5 300 c.gaugeSilence &&
    within 2 60 c.pumpStart && within 0 120 c.runOn && within 5 120 c.settle && within 0 100000 c.windowBase &&
    within 0 50 c.windowPerMille && within 0 1000000 c.varianceBase && within 0 50 c.variancePerMille &&
    within 0 5000000 c.trendLimit

/-- Whether another configured tank than `t`, or a configured station, holds a probe address (R45). -/
def probeHeld (s : State) (t a : Nat) : Bool :=
  ((numbers 8).any fun y => y != t && (s.tank y).configured && (s.tank y).settings.probe == a) ||
    (numbers 2).any fun n => (s.station n).configured && (s.station n).probe == a

/-- The status and book figures after an accepted TANK SET (R46). -/
def bookAfterSet (k : Tank) (flag : Bool) (opening : Nat) : Tank :=
  match k.status, flag with
  | .inService, true => k
  | .inService, false => { k with status := .out .configuredOut, pump := ⟨.off, none, none⟩ }
  | .out _, true =>
    { k with status := .inService, book := opening, opening := opening, receipts := 0, dispensed := 0, trend := [] }
  | .out .configuredOut, false => k
  | .out _, false =>
    { k with status := .out .configuredOut, book := 0, opening := 0, receipts := 0, dispensed := 0 }

/-- The gauge started afresh (R46). DESIGN CHOICE: notes/assumptions/38.md. -/
def gaugeAfresh (k : Tank) : Tank :=
  { k with
    gauge := .unknown, lastSample := none, temp := TempSource.absent, factor := Config.factorUncorrected
    gross := 0, net := 0, above := false, silence := some k.settings.gaugeSilence }

/-- What an accepted TANK SET makes of a tank (R46). -/
def tankAfterSet (k : Tank) (c : TankSettings) (flag : Bool) (opening : Nat) : Tank :=
  let e := { bookAfterSet k flag opening with settings := c }
  if k.configured = true ∧ k.settings.probe = c.probe then e else gaugeAfresh e

/-- A tank that TANK SET has put into a zone that is not NORMAL: its pump stops as at a zone that leaves NORMAL, since no
output may turn on there until its owner asks (R37, R142). DESIGN CHOICE: notes/assumptions/39.md. -/
def tankInZone (t : Nat) (s : State) : State :=
  if s.zoneState (s.tank t).settings.zone = .normal then s else pumpStopped t s

/-- TANK SET (R45, R46). -/
def answerTankSet (t : Nat) (c : TankSettings) (flag : Bool) (opening : Nat) (s : State) : State × Answer :=
  let k := s.tank t
  if ¬ (1 ≤ t ∧ t ≤ 8) then refuse .unknown s
  else if k.inServiceB = true ∧ s.tankBusy t = true then refuse .busy s
  else if tankSettingsOk c = false ∨ c.capacity < opening ∨ probeHeld s t c.probe = true then refuse .range s
  else if flag = true ∧
      ((s.product c.product).configured = false ∨ (s.zone c.zone).configured = false ∨ k.live = []) then
    refuse .state s
  else okay ((tankInZone t (s.setTank t (tankAfterSet k c flag opening))).touch (.tank t))

/-! ## Strap tables (R43, R44) -/

/-- Rows written into the staging table from an index on (R43). -/
def stageRows : Bank StrapRow 32 → Nat → List StrapRow → Bank StrapRow 32
  | b, _, [] => b
  | b, i, r :: rest => stageRows (b.set i r) (i + 1) rest

/-- STAGE STRAP (R43). -/
def answerStageStrap (t i count : Nat) (rows : List StrapRow) (s : State) : State × Answer :=
  if ¬ (1 ≤ t ∧ t ≤ 8) then refuse .unknown s
  else if within 1 32 i = false ∨ within 1 8 count = false ∨ 32 < i + count - 1 then refuse .range s
  else if rows.length ≠ count then refuse .format s
  else okay (s.modTank t fun k => { k with staging := stageRows k.staging i rows })

/-- The index of the first row that fails a test of R44, rows numbered from `i`, the row before being `prev`. -/
def badRow (i : Nat) (prev : Option StrapRow) : List StrapRow → Option Nat
  | [] => none
  | r :: rest =>
    let rising := match prev with
      | some q => decide (q.level < r.level ∧ q.vol ≤ r.vol)
      | none => true
    if 30000 < r.level ∨ rising = false then some i else badRow (i + 1) (some r) rest

/-- APPLY STRAP (R44). -/
def answerApplyStrap (t count : Nat) (s : State) : State × Answer :=
  let rows := (s.tank t).staging.items.take count
  if ¬ (1 ≤ t ∧ t ≤ 8) then refuse .unknown s
  else if s.tankBusy t then refuse .busy s
  else if within 2 32 count = false then (s, ⟨.range, .rowIndex 0⟩)
  else
    match badRow 1 none rows with
    | some i => (s, ⟨.range, .rowIndex i⟩)
    | none => okWith (.rowCount count) ((s.modTank t fun k => { k with live := rows }).touch (.tank t))

/-! ## RESET PUMP (R36) -/

/-- RESET PUMP (R36). -/
def answerResetPump (t : Nat) (s : State) : State × Answer :=
  if ¬ (1 ≤ t ∧ t ≤ 8) then refuse .unknown s
  else if (s.tank t).pump.state ≠ .fault then refuse .state s
  else
    let s := s.setTank t ((s.tank t).setPump .off none none)
    okay (if s.runRequest t then pumpStart t s else s)

/-! ## Meanings -/

/-- RESET_PUMP (R36). -/
def execResetPump (p : PortId) (t : Nat) (s : State) : Host.Outcome State Fault Refusal :=
  command p 0x2E (answerResetPump t) s

/-- PRODUCT_SET (R19). -/
def execProductSet (p : PortId) (n cls alpha : Nat) (s : State) : Host.Outcome State Fault Refusal :=
  command p 0x40 (answerProductSet n cls alpha) s

/-- TANK_SET (R45, R46). -/
def execTankSet (p : PortId) (t : Nat) (c : TankSettings) (flag : Bool) (opening : Nat) (s : State) :
    Host.Outcome State Fault Refusal :=
  command p 0x41 (answerTankSet t c flag opening) s

/-- STAGE_STRAP (R43). -/
def execStageStrap (p : PortId) (t i count : Nat) (rows : List StrapRow) (s : State) :
    Host.Outcome State Fault Refusal :=
  command p 0x42 (answerStageStrap t i count rows) s

/-- APPLY_STRAP (R44). -/
def execApplyStrap (p : PortId) (t count : Nat) (s : State) : Host.Outcome State Fault Refusal :=
  command p 0x43 (answerApplyStrap t count) s

end Sys2Proof.Machine
end

