-- ==== Sys2Proof/Machine/Receipts.lean ====
section
/-! DEFINITION. The commands and events of the receipt stations and stock close (06). -/

namespace Sys2Proof.Machine

/-! ## STATION SET (R123) -/

/-- Every setting inside its range in the table of 6.1. DESIGN CHOICE: notes/assumptions/10.md. -/
def stationSettingsOk (c : StationKept) : Bool :=
  within 1 6 c.zone && within 1000 200000 c.k100 && within 1 63 c.probe && within 30 900 c.noFlow

/-- Whether a configured tank, or another configured station than `n`, holds a probe address (R123). -/
def stationProbeHeld (s : State) (n a : Nat) : Bool :=
  ((numbers 8).any fun t => (s.tank t).configured && (s.tank t).settings.probe == a) ||
    (numbers 2).any fun m => m != n && (s.station m).configured && (s.station m).probe == a

/-- What an accepted STATION SET makes of a station (R123). -/
def stationAfterSet (k : Station) (c : StationKept) : Station :=
  let e := { k with toStationKept := c }
  if c.configured = false then { e with silence := none }
  else if k.configured = true ∧ k.probe = c.probe then e
  else { e with temp := TempSource.absent, reportOk := false, silence := some Config.stationSilence }

/-- STATION SET (R123). -/
def answerStationSet (n : Nat) (c : StationKept) (s : State) : State × Answer :=
  if ¬ (1 ≤ n ∧ n ≤ 2) then refuse .unknown s
  else if (s.station n).state ≠ .idle then refuse .busy s
  else if stationSettingsOk c = false ∨ stationProbeHeld s n c.probe = true then refuse .range s
  else if c.configured = true ∧ (s.zone c.zone).configured = false then refuse .state s
  else okay ((s.setStation n (stationAfterSet (s.station n) c)).touch (.station n))

/-! ## OPEN DELIVERY and CLOSE DELIVERY (R125, R126, R133) -/

/-- The ullage of a tank (R125). -/
def ullageOf (k : Tank) : Int := (k.settings.highLimit : Int) - k.gross

/-- The checks of R125. -/
def openStatus (n t : Nat) (s : State) : Option Status :=
  let d := s.station n
  let k := s.tank t
  if ¬ (1 ≤ n ∧ n ≤ 2) ∨ ¬ (1 ≤ t ∧ t ≤ 8) then some .unknown
  else if d.configured = false then some .state
  else if d.state ≠ .idle ∨ (s.stationFor t).isSome = true then some .busy
  else if k.inServiceB = false ∨ k.gauge ≠ .fresh then some .state
  else if s.zoneState d.zone ≠ .normal ∨ s.zoneState k.settings.zone ≠ .normal ∨ s.bay.stopped = true then
    some .stopped
  else if s.log.free = 0 then some .full
  else if ullageOf k ≤ 0 then some .range
  else none

/-- A delivery as it is created (R126, step 2). -/
def newDelivery (p : PortId) (d : Station) (t : Nat) (k : Tank) (docket : Option Nat) (now slot : Nat) : Delivery :=
  { tank := t, docket := docket, ullage := ullageOf k, k100 := d.k100, pulses := 0, gross := 0, savedGross := 0
    recorded := 0, flags := {}, gaugeGross := k.gross, gaugeBefore := k.net, dispensedAtOpen := k.dispensed, port := p
    opened := now, ended := none, endCode := none, passing := false, noFlowLeft := none, quietLeft := none, maxLeft := none
    factor := Config.factorUncorrected, slot := slot, settlingFrom := 0, sampledSince := false }

/-- OPEN DELIVERY (R125, R126). -/
def answerOpenDelivery (p : PortId) (n t : Nat) (docket : Option Nat) (s : State) : State × Answer :=
  match openStatus n t s with
  | some st => refuse st s
  | none =>
    let r := reserveSlot s
    let d := newDelivery p (s.station n) t (s.tank t) docket s.now r.2
    okWith (.ullage d.ullage) (enterFilling n (r.1.modStation n fun k => { k with delivery := some d }))

/-- CLOSE DELIVERY (R133). -/
def answerCloseDelivery (n : Nat) (abort : Bool) (s : State) : State × Answer :=
  if ¬ (1 ≤ n ∧ n ≤ 2) then refuse .unknown s
  else
    match (s.station n).state with
    | .filling | .paused => okay (enterSettling n (if abort then .aborted else .closed) s)
    | .idle | .settling => refuse .state s

/-! ## CLOSE STOCK (R137, R138) -/

/-- The checks of R137. -/
def closeStatus (t : Nat) (s : State) : Option Status :=
  if ¬ (1 ≤ t ∧ t ≤ 8) then some .unknown
  else if s.tankBusy t then some .busy
  else if (s.tank t).gauge ≠ .fresh then some .state
  else if s.memoryFault then some .stopped
  else if s.log.free = 0 then some .full
  else none

/-- The record of a stock close (R138, steps 1 to 4). -/
def closeRecord (p : PortId) (t : Nat) (k : Tank) : CloseRec :=
  let variance := (k.net : Int) - k.book
  let ring := pushTrend k.trend variance
  { tank := t, product := k.settings.product, port := p, opening := k.opening, receipts := k.receipts
    dispensed := k.dispensed, book := k.book, gross := k.gross, net := k.net, temp := workingTemp k.temp
    flags := k.flags, variance := variance, tolerance := tolerance k.toTankKept, trendSum := trendSum ring
    ringCount := ring.length, outOfTolerance := decide (tolerance k.toTankKept < variance.natAbs)
    loss := decide (trendSum ring < -(k.settings.trendLimit : Int)) }

/-- A tank re-based by a stock close (R138, step 6, R31). -/
def rebased (k : Tank) : Tank :=
  { k with
    trend := pushTrend k.trend ((k.net : Int) - k.book), book := k.net, opening := k.net, receipts := 0
    dispensed := 0 }

/-- CLOSE STOCK (R137, R138). -/
def answerCloseStock (p : PortId) (t : Nat) (s : State) : State × Answer :=
  match closeStatus t s with
  | some st => refuse st s
  | none =>
    let k := s.tank t
    let r := closeRecord p t k
    let ticket := s.log.ticket
    let s := writeDirect (.close r) s
    let s := if r.outOfTolerance then raise .variance .tank t r.variance r.tolerance s else s
    let s := if r.loss then raise .lossTrend .tank t r.trendSum k.settings.trendLimit s else s
    let s := (s.setTank t (rebased k)).touch (.tank t)
    okWith (.close ticket r.variance r.tolerance r.trendSum (rebased k).trend r.outOfTolerance r.loss) s

/-! ## The station meter and timers (R127, R130, R134, R124) -/

/-- A pulse counted into a delivery (R127, steps 1 and 2). -/
def countStationPulse (k : Station) (d : Delivery) : Delivery :=
  let pulses := sat32 (d.pulses + 1)
  let d := { d with pulses := pulses, gross := grossOf pulses d.k100 }
  match k.state with
  | .filling => { d with noFlowLeft := some k.noFlow }
  | .settling => { d with quietLeft := some Config.settlingQuiet }
  | .idle | .paused => d

/-- The save a counted pulse makes at 10,000 cL of gross progress (R127, step 4). -/
def stationPulseSave (n : Nat) (s : State) : State :=
  match (s.station n).delivery with
  | some d => if d.savedGross + Config.deliveryStep ≤ d.gross then stationSave n s else s
  | none => s

/-- A pulse at a station (R127, R129). -/
def stationPulse (n : Nat) (s : State) : State :=
  let k := s.station n
  match k.state, k.delivery with
  | .idle, _ | _, none => s
  | st, some d =>
    let d := countStationPulse k d
    let s := s.setStation n { k with delivery := some d }
    let s := if st ≠ .settling ∧ d.ullage ≤ d.gross then enterSettling n .ullage s else s
    stationPulseSave n s

/-- The silence timer of a station's probe expires (R124). -/
def stationSilent (n : Nat) (s : State) : State :=
  if (s.station n).silence = some 0 then
    stationFault n 2 (s.modStation n fun k => { k with silence := some Config.stationSilence })
  else s

/-- Whether a timer of a delivery that runs in a state has run out. -/
def deliveryTimer (s : State) (n : Nat) (st : StationState) (f : Delivery → Option Nat) : Bool :=
  match (s.station n).delivery with
  | some d => decide ((s.station n).state = st ∧ f d = some 0)
  | none => false

/-- The settling maximum expires (R134). -/
def settlingPassed (n : Nat) (s : State) : State :=
  match (s.station n).delivery with
  | none => s
  | some d =>
    let s := s.modStation n fun k => { k with delivery := some { d with passing := true } }
    completeDelivery n (raise .deliveryPassing .station n (d.gross - d.settlingFrom : Nat) d.tank s)

/-! ## Meanings -/

/-- STATION_SET (R123). -/
def execStationSet (p : PortId) (n : Nat) (c : StationKept) (s : State) : Host.Outcome State Fault Refusal :=
  command p 0x63 (answerStationSet n c) s

/-- OPEN_DELIVERY (R125, R126). -/
def execOpenDelivery (p : PortId) (n t : Nat) (docket : Option Nat) (s : State) : Host.Outcome State Fault Refusal :=
  command p 0x44 (answerOpenDelivery p n t docket) s

/-- CLOSE_DELIVERY (R133). -/
def execCloseDelivery (p : PortId) (n : Nat) (abort : Bool) (s : State) : Host.Outcome State Fault Refusal :=
  command p 0x45 (answerCloseDelivery n abort) s

/-- CLOSE_STOCK (R137, R138). -/
def execCloseStock (p : PortId) (t : Nat) (s : State) : Host.Outcome State Fault Refusal :=
  command p 0x46 (answerCloseStock p t) s

/-- STATION_METER_PULSE (R127, R129). -/
def execStationMeterPulse (n : Nat) (s : State) : Host.Outcome State Fault Refusal := takenAt 2 n (stationPulse n) s

/-- STATION_SILENCE_EXPIRY (R124). -/
def execStationSilenceExpiry (n : Nat) (s : State) : Host.Outcome State Fault Refusal :=
  takenAt 2 n (stationSilent n) s

/-- DELIVERY_NO_FLOW_EXPIRY (R130). -/
def execDeliveryNoFlowExpiry (n : Nat) (s : State) : Host.Outcome State Fault Refusal :=
  takenAt 2 n (fun s =>
    if deliveryTimer s n .filling (fun d => d.noFlowLeft) then enterSettling n .empty s else s) s

/-- SETTLING_QUIET_EXPIRY (R134, R135). -/
def execSettlingQuietExpiry (n : Nat) (s : State) : Host.Outcome State Fault Refusal :=
  takenAt 2 n (fun s =>
    if deliveryTimer s n .settling (fun d => d.quietLeft) then completeDelivery n s else s) s

/-- SETTLING_MAXIMUM_EXPIRY (R134). -/
def execSettlingMaximumExpiry (n : Nat) (s : State) : Host.Outcome State Fault Refusal :=
  takenAt 2 n (fun s =>
    if deliveryTimer s n .settling (fun d => d.maxLeft) then settlingPassed n s else s) s

end Sys2Proof.Machine
end

