-- ==== Sys2Proof/Machine/SpillCommands.lean ====
section
/-! DEFINITION. The commands and events of the Spill Monitor (07). -/

namespace Sys2Proof.Machine

/-! ## ZONE SET (R141) -/

/-- Whether a configured object names a zone (R141). -/
def zoneNamed (s : State) (z : Nat) : Bool :=
  ((numbers 12).any fun i => (s.point i).settings.zone == z && (s.point i).reason != some .unconfigured) ||
    ((numbers 8).any fun t => (s.tank t).settings.zone == z && (s.tank t).status != .out .unconfigured) ||
    (numbers 2).any fun n => (s.station n).zone == z && (s.station n).configured

/-- A zone as an accepted ZONE SET configures it (R141). -/
def zoneConfigured (z now : Nat) (d : Zone) (confirm : Nat) : Zone :=
  { d with
    configured := true, confirmTime := confirm, state := .shutdown, causes := [⟨.startUp, z, now, false⟩]
    more := false, confirmLeft := none, scanned := false, sump := none, emergency := false }

/-- A zone as an accepted ZONE SET unconfigures it (R141). DESIGN CHOICE: notes/assumptions/44.md. -/
def zoneUnconfigured (d : Zone) (confirm : Nat) : Zone :=
  { d with
    configured := false, confirmTime := confirm, state := .shutdown, causes := [], more := false
    confirmLeft := none, scanned := false, sump := none, emergency := false }

/-- An accepted ZONE SET (R141). -/
def zoneSetTo (z : Nat) (flag : Bool) (confirm : Nat) (s : State) : State :=
  let d := s.zone z
  match flag, d.configured with
  | true, true => s.setZone z { d with confirmTime := confirm }
  | true, false =>
    let s := s.setZone z (zoneConfigured z s.now d confirm)
    if s.env.zoneStops.getD z false then zoneInput z true s else s
  | false, _ =>
    let s := s.setZone z (zoneUnconfigured d confirm)
    { s with bypasses := s.bypasses.filter fun e => e.input != .sump z }

/-- ZONE SET (R141). -/
def answerZoneSet (z : Nat) (flag : Bool) (confirm : Nat) (s : State) : State × Answer :=
  if ¬ (1 ≤ z ∧ z ≤ 6) then refuse .unknown s
  else if within 1 120 confirm = false then refuse .range s
  else if flag = false ∧ zoneNamed s z = true then refuse .busy s
  else okay ((zoneSetTo z flag confirm s).touch (.zone z))

/-! ## Stops and releases (R156 to R159) -/

/-- STOP ZONE (R156). -/
def answerStopZone (p : PortId) (z : Nat) (s : State) : State × Answer :=
  if ¬ (1 ≤ z ∧ z ≤ 6) then refuse .unknown s
  else if (s.zone z).configured = false then refuse .state s
  else
    let s := causeArrives z .masterStop (portNumber p) s
    okWith (.zoneState (s.zone z).state) s

/-- STOP BAY (R157). -/
def answerStopBay (p : PortId) (s : State) : State × Answer :=
  let s := bayCause .masterStop (portNumber p) s
  okWith (.bayStopped s.bay.stopped) s

/-- The result of a RELEASE ZONE refused BUSY: the first ACTIVE entry, or code 0 (R158). DESIGN CHOICE:
notes/assumptions/45.md. -/
def firstActive (l : List Cause) : Result :=
  match l.find? fun c => c.active with
  | some c => .cause (causeCode c.kind) c.subject
  | none => .cause 0 0

/-- RELEASE ZONE (R158). -/
def answerReleaseZone (z : Nat) (s : State) : State × Answer :=
  let d := s.zone z
  if ¬ (1 ≤ z ∧ z ≤ 6) then refuse .unknown s
  else if d.configured = false ∨ d.state ≠ .shutdown then refuse .state s
  else if d.scanned = false then refuse .state s
  else if s.activeCondition z then (s, ⟨.busy, firstActive d.causes⟩)
  else okay (goNormal z 2 s)

/-- RELEASE BAY (R159). The number of the bay in BAY_RUNNING is 0. DESIGN CHOICE: notes/assumptions/49.md. -/
def answerReleaseBay (s : State) : State × Answer :=
  if s.bay.stopped = false then refuse .state s
  else if s.memoryFault then refuse .state s
  else if s.bay.emergency then refuse .busy s
  else
    let s := { s with bay := { s.bay with stopped := false, causes := [] } }
    let s := raise .bayRunning .bay 0 0 0 s
    okWith (.zoneStates ((numbers 6).map s.zoneState)) s

/-! ## Bypass (R160, R161) -/

/-- What a kind and a number byte name (R203, R160). -/
inductive NamedInput where
  | line (b : BypassInput)
  | emergency
  | nothing
deriving DecidableEq, Repr

/-- The input that a kind and a number name: a kind outside 1 to 4, a zone outside 1 to 6 or a tank outside 1 to 8 names
none; the number of the bay emergency input is not read. DESIGN CHOICE: notes/assumptions/10.md. -/
def inputOf (kind number : Nat) : NamedInput :=
  match kind with
  | 1 => if 1 ≤ number ∧ number ≤ 6 then .line (.sump number) else .nothing
  | 2 => if 1 ≤ number ∧ number ≤ 8 then .line (.overfill number) else .nothing
  | 3 => if 1 ≤ number ∧ number ≤ 6 then .emergency else .nothing
  | 4 => .emergency
  | _ => .nothing

/-- Whether a line is scanned (R143). -/
def State.lineScanned (s : State) : BypassInput → Bool
  | .sump z => (s.zone z).configured
  | .overfill t => (s.tank t).configured

/-- The bypass list with an entry set (R160). -/
def setBypass (e : Bypass) (l : List Bypass) : List Bypass :=
  if l.any fun x => x.input == e.input then l.map fun x => if x.input = e.input then e else x else l ++ [e]

/-- BYPASS (R160, R161). -/
def answerBypass (p : PortId) (kind number duration : Nat) (s : State) : State × Answer :=
  match inputOf kind number with
  | .nothing => refuse .unknown s
  | .emergency => refuse .range s
  | .line b =>
    if within 60 28800 duration = false then refuse .range s
    else if s.lineScanned b = false then refuse .state s
    else if 8 ≤ s.bypasses.length ∧ s.bypassed b = false then refuse .full s
    else
      let s := latchLine b { s with bypasses := setBypass ⟨b, p, duration⟩ s.bypasses }
      okWith (.bypass duration (s.reading b)) s

/-- END BYPASS (R161). An emergency input has no entry. -/
def answerEndBypass (kind number : Nat) (s : State) : State × Answer :=
  match inputOf kind number with
  | .nothing => refuse .unknown s
  | .emergency => refuse .state s
  | .line b =>
    if s.bypassed b = false then refuse .state s
    else okWith (.reading (s.reading b)) (bypassEnds b 2 s)

/-- A bypass entry's remaining time runs out (R161). DESIGN CHOICE: notes/assumptions/1.md. -/
def bypassRunsOut (kind number : Nat) (s : State) : State :=
  match inputOf kind number with
  | .line b => if s.bypasses.any fun e => e.input == b && e.remaining == 0 then bypassEnds b 1 s else s
  | .emergency | .nothing => s

/-! ## The emergency inputs (R144) -/

/-- A zone's emergency input of the field. -/
def setZoneStop (z : Nat) (pressed : Bool) (s : State) : State :=
  { s with env := { s.env with zoneStops := s.env.zoneStops.set z pressed } }

/-- A change of a zone's emergency input is taken for a configured zone whose last reading differs (R144, R141). -/
def zoneStopChanged (z : Nat) (pressed : Bool) (s : State) : State :=
  if (s.zone z).configured = true ∧ (s.zone z).emergency ≠ pressed then zoneInput z pressed s else s

/-- A change of the bay emergency input (R144). -/
def bayStopChanged (pressed : Bool) (s : State) : State := if s.bay.emergency ≠ pressed then bayInput pressed s else s

/-- The confirm timer of a zone expires (R149). DESIGN CHOICE: notes/assumptions/1.md. -/
def confirmEnds (z : Nat) (s : State) : State :=
  if (s.zone z).state = .suspect ∧ (s.zone z).confirmLeft = some 0 then confirmExpires z s else s

/-! ## Meanings -/

/-- STOP_ZONE (R156). -/
def execStopZone (p : PortId) (z : Nat) (s : State) : Host.Outcome State Fault Refusal :=
  command p 0x50 (answerStopZone p z) s

/-- RELEASE_ZONE (R158). -/
def execReleaseZone (p : PortId) (z : Nat) (s : State) : Host.Outcome State Fault Refusal :=
  command p 0x51 (answerReleaseZone z) s

/-- STOP_BAY (R157). -/
def execStopBay (p : PortId) (s : State) : Host.Outcome State Fault Refusal := command p 0x52 (answerStopBay p) s

/-- RELEASE_BAY (R159). -/
def execReleaseBay (p : PortId) (s : State) : Host.Outcome State Fault Refusal := command p 0x53 answerReleaseBay s

/-- BYPASS (R160, R161). -/
def execBypass (p : PortId) (kind number duration : Nat) (s : State) : Host.Outcome State Fault Refusal :=
  command p 0x54 (answerBypass p kind number duration) s

/-- END_BYPASS (R161). -/
def execEndBypass (p : PortId) (kind number : Nat) (s : State) : Host.Outcome State Fault Refusal :=
  command p 0x55 (answerEndBypass kind number) s

/-- ZONE_SET (R141). -/
def execZoneSet (p : PortId) (z : Nat) (flag : Bool) (confirm : Nat) (s : State) : Host.Outcome State Fault Refusal :=
  command p 0x62 (answerZoneSet z flag confirm) s

/-- SENSOR_SCAN (R143). -/
def execSensorScan (r : ScanReadings) (s : State) : Host.Outcome State Fault Refusal := taken (scanLines r) s

/-- ZONE_EMERGENCY_STOP (R144). -/
def execZoneEmergencyStop (z : Nat) (pressed : Bool) (s : State) : Host.Outcome State Fault Refusal :=
  takenAt 6 z (zoneStopChanged z pressed) (setZoneStop z pressed s)

/-- BAY_EMERGENCY_STOP (R144). -/
def execBayEmergencyStop (pressed : Bool) (s : State) : Host.Outcome State Fault Refusal :=
  taken (bayStopChanged pressed) { s with env := { s.env with bayStop := pressed } }

/-- CONFIRM_TIMER_EXPIRY (R149). -/
def execConfirmTimerExpiry (z : Nat) (s : State) : Host.Outcome State Fault Refusal := takenAt 6 z (confirmEnds z) s

/-- BYPASS_TIME_EXPIRY (R161). -/
def execBypassTimeExpiry (kind number : Nat) (s : State) : Host.Outcome State Fault Refusal :=
  taken (bypassRunsOut kind number) s

end Sys2Proof.Machine
end

