-- ==== Sys2Proof/Machine/Ports.lean ====
section
/-! DEFINITION. The commands of the Port Unit and the Log Unit (08 and 09): COLLECT NOTICES, COLLECT RECORDS, SET ROLES,
SET QUEUES, SET CLOCK, ATTACH, DETACH, RESTART and CLEAR ALL. -/

namespace Sys2Proof.Machine

/-- COLLECT NOTICES (R184). -/
def answerCollectNotices (p : PortId) (n : Nat) (s : State) : State × Answer :=
  if within 1 8 n = false then refuse .range s
  else
    let d := s.port p
    let left := d.queue.drop n
    okWith (.notices (d.queue.take n) left.length d.overflow) (s.setPort p { d with queue := left, overflow := false })

/-- The cursor after a collection of records (R170): past the last one taken. -/
def cursorAfter (taken : List Held) (cursor : Nat) : Nat :=
  match taken.getLast? with
  | some h => nextTicket h.record.ticket
  | none => cursor

/-- COLLECT RECORDS (R170): the reply is made from the log as the removal leaves it, and then the skipped count is
cleared. DEDUCED: notes/assumptions/35.md. -/
def answerCollectRecords (p : PortId) (n : Nat) (s : State) : State × Answer :=
  if within 1 4 n = false then refuse .range s
  else
    let l := s.logOf p
    let got := (s.log.held.drop (s.log.passed l.cursor)).take n
    let s := judgeRemoval (s.setLogOf p { l with cursor := cursorAfter got l.cursor })
    let cursor := (s.logOf p).cursor
    okWith
      (.records (got.map fun h => h.record) cursor (decide (s.log.passed cursor < s.log.held.length)) (s.skippedOf p)
        s.log.free)
      (s.setSkipped p 0)

/-- SET ROLES (R182). -/
def answerSetRoles (a b c : Byte) (s : State) : State × Answer :=
  let x := rolesOfByte a
  let y := rolesOfByte b
  let z := rolesOfByte c
  if rolesBad a || rolesBad b || rolesBad c then refuse .range s
  else if (x.safety || y.safety || z.safety) = false ∨ (x.supervisor || y.supervisor || z.supervisor) = false then
    refuse .state s
  else
    let table : Bank RoleSet 3 := ⟨[x, y, z], rfl⟩
    okWith (.roles table) ({ s with roles := table }.touch .roleTable)

/-- A queue fitted to its length (R185). -/
def fitQueue (k : Nat) (d : Port) : Port :=
  if 32 * k < d.queue.length then { d with queue := d.queue.take (32 * k), overflow := true } else d

/-- SET QUEUES (R185). -/
def answerSetQueues (a b c : Nat) (s : State) : State × Answer :=
  if within 1 8 a = false ∨ within 1 8 b = false ∨ within 1 8 c = false ∨ Config.noticePool < 32 * (a + b + c) then
    refuse .range s
  else
    let ks : Bank Nat 3 := ⟨[a, b, c], rfl⟩
    let s := { s with queueK := ks, ports := s.ports.mapNumbered fun n d => fitQueue (ks.getD n 4) d }.touch .queueLengths
    okWith (.queues (ks.map fun k => 32 * k) (s.ports.map fun d => d.queue.length)) s

/-- SET CLOCK (R187). -/
def answerSetClock (time : Nat) (s : State) : State × Answer :=
  let before := s.clock
  let s := raise .clockSet .part 0 before.time time { s with clock := ⟨time, true⟩ }
  okWith (.clock before.time before.set) s

/-- ATTACH (R172). -/
def answerAttach (n : Nat) (s : State) : State × Answer :=
  match portOfCode n with
  | none => refuse .unknown s
  | some p =>
    let cursor := s.log.oldest
    okWith (.cursor cursor) (((s.setLogOf p ⟨true, cursor⟩).setSkipped p 0).touch (.portLog n))

/-- Whether another port than `p` is attached. -/
def otherAttached (s : State) (p : PortId) : Bool :=
  [PortId.a, PortId.b, PortId.c].any fun q => q != p && (s.logOf q).attached

/-- DETACH (R173). -/
def answerDetach (n : Nat) (s : State) : State × Answer :=
  match portOfCode n with
  | none => refuse .unknown s
  | some p =>
    if (s.logOf p).attached = false then okWith (.free s.log.free) s
    else if otherAttached s p = false then refuse .state s
    else
      let s := judgeRemoval (s.setLogOf p { s.logOf p with attached := false })
      okWith (.free s.log.free) s

/-- Every reply begun or outstanding is sent in full (R189). -/
def drainAll (s : State) : State := drain .c (drain .b (drain .a s))

/-- The reply of RESTART or CLEAR ALL is sent in full, after those of the other ports (R189). -/
def lastReply (p : PortId) (code : Nat) (s : State) : State :=
  drain p (beginReply p (BitVec.ofNat 8 code) ⟨.ok, .empty⟩ (drainAll s))

/-- RESTART taken (R189, R197): the reply, the final saves, the start, which reads the straps as they then stand (R176)
and which a warning may cut (R196). DESIGN CHOICE: notes/assumptions/27.md. -/
def restart (p : PortId) (s : State) : State :=
  startFound 3 s.nextFinds.cut (findNext (finalSaves (lastReply p 0x69 s)))

/-- The check of R190. -/
def clearAllowed (s : State) : Bool := s.bay.stopped || (numbers 6).all fun z => decide (s.zoneState z = .shutdown)

/-- CLEAR ALL taken (R190, R200): the reply, then the cold start, which reads the straps as they then stand (R176) and
which a warning may cut (R196). DESIGN CHOICE: notes/assumptions/27.md. -/
def clearAll (p : PortId) (s : State) : State :=
  coldStart 4 1 s.nextFinds.cut (findNext (lastReply p 0x6A s))

/-- Whether a command is a RESTART or a CLEAR ALL that is taken. -/
def restarts (p : PortId) (code : Nat) (s : State) : Bool :=
  permitted s p code && (code == 0x69 || (code == 0x6A && clearAllowed s))

/-! ## Meanings -/

/-- COLLECT_NOTICES (R184). -/
def execCollectNotices (p : PortId) (n : Nat) (s : State) : Host.Outcome State Fault Refusal :=
  command p 0x09 (answerCollectNotices p n) s

/-- COLLECT_RECORDS (R170). -/
def execCollectRecords (p : PortId) (n : Nat) (s : State) : Host.Outcome State Fault Refusal :=
  command p 0x0A (answerCollectRecords p n) s

/-- SET_ROLES (R182). -/
def execSetRoles (p : PortId) (a b c : Byte) (s : State) : Host.Outcome State Fault Refusal :=
  command p 0x64 (answerSetRoles a b c) s

/-- SET_QUEUES (R185). -/
def execSetQueues (p : PortId) (a b c : Nat) (s : State) : Host.Outcome State Fault Refusal :=
  command p 0x65 (answerSetQueues a b c) s

/-- SET_CLOCK (R187). -/
def execSetClock (p : PortId) (time : Nat) (s : State) : Host.Outcome State Fault Refusal :=
  command p 0x66 (answerSetClock time) s

/-- ATTACH (R172). -/
def execAttach (p : PortId) (n : Nat) (s : State) : Host.Outcome State Fault Refusal :=
  command p 0x67 (answerAttach n) s

/-- DETACH (R173). -/
def execDetach (p : PortId) (n : Nat) (s : State) : Host.Outcome State Fault Refusal :=
  command p 0x68 (answerDetach n) s

/-- RESTART (R189). -/
def execRestart (p : PortId) (s : State) : Host.Outcome State Fault Refusal :=
  if s.mode = .running ∧ permitted s p 0x69 = true then .next (restart p s)
  else command p 0x69 (refuse .role) s

/-- CLEAR_ALL (R190). -/
def execClearAll (p : PortId) (s : State) : Host.Outcome State Fault Refusal :=
  if s.mode = .running ∧ permitted s p 0x6A = true ∧ clearAllowed s = true then .next (clearAll p s)
  else command p 0x6A (refuse .state) s

end Sys2Proof.Machine
end

