-- ==== Sys2Proof/Machine/Power.lean ====
section
/-! DEFINITION. The bay clock's second, the power-fail warning, power and the reset line (09: R186; 10: R196, R197). -/

namespace Sys2Proof.Machine

/-! ## A second of running time (R186) -/

/-- The second timers of a tank. -/
def tickTank (k : Tank) : Tank :=
  { k with
    silence := tickTimer k.silence
    pump := ⟨k.pump.state, tickTimer k.pump.startLeft, tickTimer k.pump.runOnLeft⟩
    window := { k.window with settle := tickTimer k.window.settle } }

/-- The second timers of a point. -/
def tickPoint (p : Point) : Point :=
  { p with
    authLeft := tickTimer p.authLeft, noFlowLeft := tickTimer p.noFlowLeft, rateLeft := tickTimer p.rateLeft
    holdLeft := tickTimer p.holdLeft, quietLeft := tickTimer p.quietLeft, maxLeft := tickTimer p.maxLeft }

/-- The idle timer of an island's visit. -/
def tickIsland (d : Island) : Island :=
  { d with visit := d.visit.map fun v => { v with idle := tickTimer v.idle } }

/-- The second timers of a station and its delivery. -/
def tickStation (k : Station) : Station :=
  { k with
    silence := tickTimer k.silence
    delivery := k.delivery.map fun d =>
      { d with
        noFlowLeft := tickTimer d.noFlowLeft, quietLeft := tickTimer d.quietLeft, maxLeft := tickTimer d.maxLeft } }

/-- A second of running time: every timer of seconds counts down, every bypass loses a second (R160), and the bay
clock adds one, 0 following 4,294,967,295 (R186). The expiries themselves are commands (DESIGN CHOICE:
notes/assumptions/1.md). -/
def second (s : State) : State :=
  { s with
    clock := { s.clock with time := if max32 ≤ s.clock.time then 0 else s.clock.time + 1 }
    tanks := s.tanks.map tickTank, points := s.points.map tickPoint, islands := s.islands.map tickIsland
    stations := s.stations.map tickStation
    zones := s.zones.map fun d => { d with confirmLeft := tickTimer d.confirmLeft }
    bypasses := s.bypasses.map fun e => { e with remaining := e.remaining - 1 } }

/-! ## Power (R196, R197) -/

/-- The power-fail warning (R196): outputs off with the mode, the final saves, power-fail hold. -/
def powerFailWarning (s : State) : State := { finalSaves s with mode := .powerFailHold }

/-- The group area as a power failure leaves it (R193, R197). DESIGN CHOICE: notes/assumptions/12.md. -/
def tear (t : Torn) (m : Memory) : Memory :=
  match t with
  | .none => m
  | .incomplete => { m with area := .incomplete }
  | .complete keys new n => tornAt n m keys new

/-- The part without power (R197): what is not retained is lost; the pins and the memory stand. DEDUCED:
notes/assumptions/31.md. -/
def withoutPower (t : Torn) (s : State) : State :=
  { State.reset with
    mode := .off, env := s.env, mem := tear t s.mem, ports := s.ports.map fun d => Port.atStart d.rate d.tx
    freeCount := s.freeCount, pending := s.pending }

/-! ## Meanings -/

/-- BAY_CLOCK_SECOND (R186). -/
def execBayClockSecond (s : State) : Host.Outcome State Fault Refusal := taken second s

/-- POWER_FAIL_WARNING (R196). -/
def execPowerFailWarning (s : State) : Host.Outcome State Fault Refusal :=
  .next (if s.mode = .running then powerFailWarning s else s)

/-- POWER_FAIL_WARNING_WITHDRAWN (R196): a start as at power-on. -/
def execPowerFailWarningWithdrawn (f : StartFinds) (s : State) : Host.Outcome State Fault Refusal :=
  .next (if s.mode = .powerFailHold then start 1 f s else s)

/-- POWER_ON (R197). DEDUCED: notes/assumptions/21.md. -/
def execPowerOn (f : StartFinds) (s : State) : Host.Outcome State Fault Refusal := .next (start 1 f s)

/-- RESET_LINE_ASSERTED (R197): outputs off, the relay open, no event taken, no final save. DEDUCED:
notes/assumptions/21.md. -/
def execResetLineAsserted (s : State) : Host.Outcome State Fault Refusal :=
  .next (if s.mode = .off then s else { s with mode := .resetHeld })

/-- RESET_LINE_RELEASED (R197). -/
def execResetLineReleased (f : StartFinds) (s : State) : Host.Outcome State Fault Refusal :=
  .next (if s.mode = .resetHeld then start 2 f s else s)

/-- POWER_FAILURE (R197). -/
def execPowerFailure (t : Torn) (s : State) : Host.Outcome State Fault Refusal := .next (withoutPower t s)

end Sys2Proof.Machine
end

