-- ==== Sys2Proof/Machine/Operands.lean ====
section
/-! DEFINITION. The operand forms of the command frames (11: R203): the lengths of the command bodies and the arguments
they carry. -/

namespace Sys2Proof.Machine

/-- Byte number `k` of a command body, the code being number 0. -/
def byteAt (b : List Byte) (k : Nat) : Nat := (b.getD k 0#8).toNat

/-- The number of `n` bytes that starts at byte number `k` (R201). -/
def numAt (b : List Byte) (k n : Nat) : Nat := natOf ((b.drop k).take n)

/-- Bit `j` of the flag byte at byte number `k`. -/
def bitAt (b : List Byte) (k j : Nat) : Bool := (b.getD k 0#8).getLsbD j

/-- An optional field: a value where its presence bit is set (R201). -/
def optionAt (present : Bool) (n : Nat) : Option Nat := if present then some n else none

/-- The body length of a command (R203). For SET SERVICE it follows the entry count the body gives; for STAGE STRAP only
the fixed part is checked here (R180). -/
def lengthOk (code : Nat) (b : List Byte) : Bool :=
  let n := b.length
  let fixed := fun (k : Nat) => decide (n = k)
  match code with
  | 0x01 | 0x03 | 0x06 | 0x07 | 0x08 | 0x09 | 0x0A => fixed 2
  | 0x02 | 0x04 => fixed 3
  | 0x05 => fixed 9
  | 0x20 => fixed 9
  | 0x21 | 0x22 | 0x23 | 0x24 | 0x2E => fixed 2
  | 0x25 | 0x29 | 0x2A | 0x2B => fixed 3
  | 0x28 => fixed 38
  | 0x2C => fixed 6
  | 0x2D => fixed 14
  | 0x30 => decide (8 ≤ n) && fixed (8 + 10 * byteAt b 7)
  | 0x31 => fixed 4
  | 0x40 => fixed 5
  | 0x41 => fixed 44
  | 0x42 => decide (4 ≤ n)
  | 0x43 => fixed 3
  | 0x44 => fixed 8
  | 0x45 => fixed 3
  | 0x46 => fixed 2
  | 0x50 | 0x51 | 0x52 | 0x53 => fixed 2
  | 0x54 => fixed 5
  | 0x55 => fixed 3
  | 0x60 => fixed 40
  | 0x61 | 0x62 => fixed 5
  | 0x63 => fixed 11
  | 0x64 | 0x65 => fixed 4
  | 0x66 => fixed 5
  | 0x67 | 0x68 | 0x69 | 0x6A => fixed 2
  | _ => false

/-- The arguments of ACCOUNT SET (R203). -/
def accountArgs (b : List Byte) : AccountArgs :=
  { tag := BitVec.ofNat 64 (numAt b 3 8), cls := byteAt b 11, capacity := numAt b 12 4, hourSource := byteAt b 16
    hoursRequired := bitAt b 17 0, replaced := bitAt b 17 1, rollover := optionAt (bitAt b 17 2) (numAt b 18 4)
    band := if bitAt b 17 3 then some (numAt b 22 4, numAt b 26 4) else none
    limp := optionAt (bitAt b 17 4) (numAt b 30 4), meter := numAt b 34 4 }

/-- The entries of SET SERVICE, `n` of them from byte number `k` (R203). -/
def serviceArgs (b : List Byte) (k : Nat) : Nat → List ServiceArgs
  | 0 => []
  | n + 1 =>
    ⟨byteAt b k, numAt b (k + 1) 4, if bitAt b (k + 5) 0 then none else some (numAt b (k + 6) 4)⟩ ::
      serviceArgs b (k + 10) n

/-- Whole rows of STAGE STRAP, `n` of them. -/
def strapRows : Nat → List Byte → List StrapRow
  | 0, _ => []
  | n + 1, b => ⟨numAt b 0 2, numAt b 2 4⟩ :: strapRows n (b.drop 6)

/-- The rows of STAGE STRAP (R203). Bytes that are no whole number of rows stand as 42 rows, a count that no frame
holds, so that they match no row count (R43). -/
def stagedRows (b : List Byte) : List StrapRow :=
  if b.length % 6 = 0 then strapRows (b.length / 6) b else List.replicate 42 ⟨0, 0⟩

/-- The settings of TANK SET (R203). -/
def tankArgs (b : List Byte) : TankSettings :=
  { product := byteAt b 2, zone := byteAt b 3, probe := byteAt b 4, capacity := numAt b 5 4, highLimit := numAt b 9 4
    lowCutoff := numAt b 13 4, gaugeSilence := numAt b 17 2, pumpStart := numAt b 19 2, runOn := numAt b 21 2
    settle := numAt b 23 2, windowBase := numAt b 25 4, windowPerMille := byteAt b 29, varianceBase := numAt b 30 4
    variancePerMille := byteAt b 34, trendLimit := numAt b 35 4 }

/-- The settings of POINT SET (R203). -/
def pointArgs (b : List Byte) : PointSettings :=
  { island := byteAt b 2, zone := byteAt b 3, tank := byteAt b 4, k100 := numAt b 5 4, maxFlow := numAt b 9 4
    minDispense := numAt b 13 4, maxDispense := numAt b 17 4, slowdown := numAt b 21 4, lubePreset := numAt b 25 4
    authTimeout := numAt b 29 2, noFlow := numAt b 31 2, holdLimit := numAt b 33 2, quietTime := numAt b 35 2
    passingAllowance := numAt b 37 2 }

/-- The settings of STATION SET (R203). -/
def stationArgs (b : List Byte) : StationKept :=
  { configured := bitAt b 2 0, zone := byteAt b 3, k100 := numAt b 4 4, probe := byteAt b 8, noFlow := numAt b 9 2 }

/-- The command that a body of the right length carries (R203). -/
def readCommand (p : PortId) (b : List Byte) : Option Instr :=
  match byteAt b 0 with
  | 0x01 => some (.readPoint p (byteAt b 1))
  | 0x02 => some (.readTank p (byteAt b 1) (byteAt b 2))
  | 0x03 => some (.readStation p (byteAt b 1))
  | 0x04 => some (.readAccount p (numAt b 1 2))
  | 0x05 => some (.findTag p (BitVec.ofNat 64 (numAt b 1 8)))
  | 0x06 => some (.readZone p (byteAt b 1))
  | 0x07 => some (.readIsland p (byteAt b 1))
  | 0x08 => some (.readPort p (byteAt b 1))
  | 0x09 => some (.collectNotices p (byteAt b 1))
  | 0x0A => some (.collectRecords p (byteAt b 1))
  | 0x20 => some (.authorize p (byteAt b 1) (numAt b 2 2) (numAt b 4 4) (bitAt b 8 0) (bitAt b 8 1))
  | 0x21 => some (.cancel p (byteAt b 1))
  | 0x22 => some (.hold p (byteAt b 1))
  | 0x23 => some (.resume p (byteAt b 1))
  | 0x24 => some (.abort p (byteAt b 1))
  | 0x25 => some (.pointService p (byteAt b 1) (byteAt b 2))
  | 0x28 => some (.accountSet p (numAt b 1 2) (accountArgs b))
  | 0x29 => some (.accountBar p (numAt b 1 2))
  | 0x2A => some (.accountUnbar p (numAt b 1 2))
  | 0x2B => some (.vacate p (numAt b 1 2))
  | 0x2C => some (.enterHours p (numAt b 1 2) (numAt b 3 3))
  | 0x2D => some (.fieldTransfer p (numAt b 1 2) (numAt b 3 2) (numAt b 5 4) (optionAt (bitAt b 9 0) (numAt b 10 4)))
  | 0x2E => some (.resetPump p (byteAt b 1))
  | 0x30 => some (.setService p (numAt b 1 2) (numAt b 3 4) (serviceArgs b 8 (byteAt b 7)))
  | 0x31 => some (.serviceDone p (numAt b 1 2) (byteAt b 3))
  | 0x40 => some (.productSet p (byteAt b 1) (byteAt b 2) (numAt b 3 2))
  | 0x41 => some (.tankSet p (byteAt b 1) (tankArgs b) (bitAt b 39 0) (numAt b 40 4))
  | 0x42 => some (.stageStrap p (byteAt b 1) (byteAt b 2) (byteAt b 3) (stagedRows (b.drop 4)))
  | 0x43 => some (.applyStrap p (byteAt b 1) (byteAt b 2))
  | 0x44 => some (.openDelivery p (byteAt b 1) (byteAt b 2) (optionAt (bitAt b 3 0) (numAt b 4 4)))
  | 0x45 => some (.closeDelivery p (byteAt b 1) (bitAt b 2 0))
  | 0x46 => some (.closeStock p (byteAt b 1))
  | 0x50 => some (.stopZone p (byteAt b 1))
  | 0x51 => some (.releaseZone p (byteAt b 1))
  | 0x52 => some (.stopBay p)
  | 0x53 => some (.releaseBay p)
  | 0x54 => some (.bypass p (byteAt b 1) (byteAt b 2) (numAt b 3 2))
  | 0x55 => some (.endBypass p (byteAt b 1) (byteAt b 2))
  | 0x60 => some (.pointSet p (byteAt b 1) (pointArgs b) (bitAt b 39 0))
  | 0x61 => some (.islandSet p (byteAt b 1) (bitAt b 2 0) (numAt b 3 2))
  | 0x62 => some (.zoneSet p (byteAt b 1) (bitAt b 2 0) (numAt b 3 2))
  | 0x63 => some (.stationSet p (byteAt b 1) (stationArgs b))
  | 0x64 => some (.setRoles p (b.getD 1 0) (b.getD 2 0) (b.getD 3 0))
  | 0x65 => some (.setQueues p (byteAt b 1) (byteAt b 2) (byteAt b 3))
  | 0x66 => some (.setClock p (numAt b 1 4))
  | 0x67 => some (.attach p (byteAt b 1))
  | 0x68 => some (.detach p (byteAt b 1))
  | 0x69 => some (.restart p)
  | 0x6A => some (.clearAll p)
  | _ => none

end Sys2Proof.Machine
end

