-- ==== Sys2Proof/Machine/Frames.lean ====
section
/-! DEFINITION. The receivers of the ports and the frames (09: R176 to R180): a command that comes as bytes is judged and
served by the same answers as a command row. -/

namespace Sys2Proof.Machine

/-- The owner's answer to a command (R180). RESTART and CLEAR ALL that are taken do not come here: `receiveFrame` makes
their start; a CLEAR ALL here has failed the check of R190. Events are no commands of a port. -/
def serve (i : Instr) : State → State × Answer :=
  match i with
  | .readPoint _ i => answerReadPoint i
  | .readTank _ t option => answerReadTank t option
  | .readStation _ n => answerReadStation n
  | .readAccount _ a => answerReadAccount a
  | .findTag _ tag => answerFindTag tag
  | .readZone _ z => answerReadZone z
  | .readIsland _ i => answerReadIsland i
  | .readPort _ n => answerReadPort n
  | .collectNotices p n => answerCollectNotices p n
  | .collectRecords p n => answerCollectRecords p n
  | .authorize p i a q service bayUse => answerAuthorize p i a q service bayUse
  | .cancel _ i => answerCancel i
  | .hold _ i => answerHold i
  | .resume _ i => answerResume i
  | .abort _ i => answerAbort i
  | .pointService _ i d => answerPointService i d
  | .accountSet _ a x => answerAccountSet a x
  | .accountBar _ a => answerAccountBar a
  | .accountUnbar _ a => answerAccountUnbar a
  | .vacate _ a => answerVacate a
  | .enterHours _ a h => answerEnterHours a h
  | .fieldTransfer p sv x q h => answerFieldTransfer p sv x q h
  | .resetPump _ t => answerResetPump t
  | .setService _ a g l => answerSetService a g l
  | .serviceDone p a c => answerServiceDone p a c
  | .productSet _ n c alpha => answerProductSet n c alpha
  | .tankSet _ t c flag opening => answerTankSet t c flag opening
  | .stageStrap _ t i count rows => answerStageStrap t i count rows
  | .applyStrap _ t count => answerApplyStrap t count
  | .openDelivery p n t docket => answerOpenDelivery p n t docket
  | .closeDelivery _ n abort => answerCloseDelivery n abort
  | .closeStock p t => answerCloseStock p t
  | .stopZone p z => answerStopZone p z
  | .releaseZone _ z => answerReleaseZone z
  | .stopBay p => answerStopBay p
  | .releaseBay _ => answerReleaseBay
  | .bypass p kind number duration => answerBypass p kind number duration
  | .endBypass _ kind number => answerEndBypass kind number
  | .pointSet _ i c flag => answerPointSet i c flag
  | .islandSet _ i flag idleTime => answerIslandSet i flag idleTime
  | .zoneSet _ z flag confirm => answerZoneSet z flag confirm
  | .stationSet _ n c => answerStationSet n c
  | .setRoles _ a b c => answerSetRoles a b c
  | .setQueues _ a b c => answerSetQueues a b c
  | .setClock _ time => answerSetClock time
  | .attach _ n => answerAttach n
  | .detach _ n => answerDetach n
  | .restart _ => okay
  | .clearAll _ => refuse .state
  | _ => refuse .unknown

/-- The Port Unit's checks of a frame's body and the owner's answer (R180). -/
def judgeBody (p : PortId) (b : List Byte) (s : State) : State × Answer :=
  let code := byteAt b 0
  match commandRoles code with
  | none => refuse .unknown s
  | some _ =>
    if permitted s p code = false then refuse .role s
    else if lengthOk code b = false then refuse .format s
    else
      match readCommand p b with
      | some i => serve i s
      | none => refuse .unknown s

/-- The reply of the command outstanding at a port begins, where no earlier reply is still being sent (R178). -/
def replyBegins (p : PortId) (s : State) : State :=
  match (s.port p).waiting, (s.port p).sending with
  | some w, false => beginReply p w.1 w.2 s
  | _, _ => s

/-- A link event of a port: before its effect `f` there, the reply outstanding at the port has begun, or has not (R178).
DESIGN CHOICE: notes/assumptions/37.md. -/
def linkEvent (l : LinkAt) (f : PortId → State → State) (s : State) : Host.Outcome State Fault Refusal :=
  .next (if s.mode = .running then f l.port (if l.begun then replyBegins l.port s else s) else s)

/-- A good frame judged against the port's command state (R178): with a command outstanding it is dropped with the
overrun flag; else it is taken and answered by its owner, and it is outstanding until its reply begins. -/
def receiveFrame (p : PortId) (b : List Byte) (s : State) : State :=
  let d := s.port p
  if d.waiting.isSome then s.setPort p { d with overrun := true }
  else if restarts p (byteAt b 0) s = true ∧ lengthOk (byteAt b 0) b = true then
    if byteAt b 0 = 0x69 then restart p s else clearAll p s
  else
    let r := judgeBody p b s
    (commit s r.1).modPort p fun d => { d with waiting := some (b.headD 0#8, r.2) }

/-- A frame dropped: the framing flag is set and the receiver hunts (R176). -/
def dropFrame (p : PortId) (s : State) : State :=
  s.modPort p fun d => { d with rx := .hunt, gap := false, framing := true }

/-- The check word of a frame judged (R177), its length byte `n`. -/
def judgeFrame (p : PortId) (b : List Byte) (first second : Byte) (s : State) : State :=
  let s := s.modPort p fun d => { d with rx := .hunt, gap := false }
  if (checkWord (BitVec.ofNat 8 b.length :: b)).toNat = natOf [first, second] then receiveFrame p b s
  else s.modPort p fun d => { d with framing := true }

/-- The receiver takes a state, with the gap timer started afresh (R176). -/
def receiverTo (p : PortId) (r : Receiver) (s : State) : State := s.modPort p fun d => { d with rx := r, gap := true }

/-- A byte with its stop bit arrives at a receiver (R176). DESIGN CHOICE: notes/assumptions/30.md. -/
def byteArrives (p : PortId) (x : Byte) (s : State) : State :=
  match (s.port p).rx with
  | .hunt => if x = 0xA5#8 then receiverTo p .length s else s
  | .length => if within 2 250 x.toNat then receiverTo p (.body x.toNat []) s else dropFrame p s
  | .body n got =>
    let got := got ++ [x]
    receiverTo p (if n ≤ got.length then .check got none else .body n got) s
  | .check b none => receiverTo p (.check b (some x)) s
  | .check b (some y) => judgeFrame p b y x s

/-- The gap timer of a receiver expires (R176). -/
def gapEnds (p : PortId) (s : State) : State := if (s.port p).gap then dropFrame p s else s

/-- A byte without its stop bit (R176). -/
def badByteArrives (p : PortId) (s : State) : State := if (s.port p).rx = .hunt then s else dropFrame p s

/-- A reply has been sent in full (R178). Where one was being sent, the answer outstanding behind it begins to be sent;
else it is the reply of the outstanding command, which has begun and been sent. In power-fail hold no reply begins
(R196). DEDUCED: notes/assumptions/23.md. -/
def replySent (p : PortId) (s : State) : State :=
  let ended := s.modPort p fun d => { d with sending := false }
  if s.mode ≠ .running then ended else if (s.port p).sending then replyBegins p ended else drain p s

/-! ## Meanings -/

/-- FRAME_RECEIVED (R177): the byte that completes CHECK. -/
def execFrameReceived (l : LinkAt) (x : Byte) (s : State) : Host.Outcome State Fault Refusal :=
  linkEvent l (fun p => byteArrives p x) s

/-- PORT_BYTE_RECEIVED (R176): a byte at a receiver that is not completing CHECK. -/
def execPortByteReceived (l : LinkAt) (x : Byte) (s : State) : Host.Outcome State Fault Refusal :=
  linkEvent l (fun p => byteArrives p x) s

/-- PORT_GAP_TIMEOUT (R176). -/
def execPortGapTimeout (l : LinkAt) (s : State) : Host.Outcome State Fault Refusal := linkEvent l gapEnds s

/-- BAD_BYTE (R176). -/
def execBadByte (l : LinkAt) (s : State) : Host.Outcome State Fault Refusal := linkEvent l badByteArrives s

/-- REPLY_SENT (R178): in power-fail hold a reply begun is still sent in full (R196). DEDUCED:
notes/assumptions/23.md. -/
def execReplySent (p : PortId) (s : State) : Host.Outcome State Fault Refusal :=
  .next (if s.mode = .running ∨ s.mode = .powerFailHold then replySent p s else s)

end Sys2Proof.Machine
end

