-- ==== Sys2Proof/Machine/Dispatch.lean ====
section
/-! DEFINITION. One arm for each command of Syntax.lean: its meaning. -/

namespace Sys2Proof.Machine

def exec (i : Instr) (s : State) : Host.Outcome State Fault Refusal :=
  match i with
  | .readPoint p point => Sys2Proof.Machine.execReadPoint p point s
  | .readTank p tank option => Sys2Proof.Machine.execReadTank p tank option s
  | .readStation p station => Sys2Proof.Machine.execReadStation p station s
  | .readAccount p account => Sys2Proof.Machine.execReadAccount p account s
  | .findTag p tag => Sys2Proof.Machine.execFindTag p tag s
  | .readZone p zone => Sys2Proof.Machine.execReadZone p zone s
  | .readIsland p island => Sys2Proof.Machine.execReadIsland p island s
  | .readPort p named => Sys2Proof.Machine.execReadPort p named s
  | .collectNotices p n => Sys2Proof.Machine.execCollectNotices p n s
  | .collectRecords p n => Sys2Proof.Machine.execCollectRecords p n s
  | .authorize p point account preset service bayUse => Sys2Proof.Machine.execAuthorize p point account preset service bayUse s
  | .cancel p point => Sys2Proof.Machine.execCancel p point s
  | .hold p point => Sys2Proof.Machine.execHold p point s
  | .resume p point => Sys2Proof.Machine.execResume p point s
  | .abort p point => Sys2Proof.Machine.execAbort p point s
  | .pointService p point direction => Sys2Proof.Machine.execPointService p point direction s
  | .accountSet p account x => Sys2Proof.Machine.execAccountSet p account x s
  | .accountBar p account => Sys2Proof.Machine.execAccountBar p account s
  | .accountUnbar p account => Sys2Proof.Machine.execAccountUnbar p account s
  | .vacate p account => Sys2Proof.Machine.execVacate p account s
  | .enterHours p account reading => Sys2Proof.Machine.execEnterHours p account reading s
  | .fieldTransfer p service machine quantity reading => Sys2Proof.Machine.execFieldTransfer p service machine quantity reading s
  | .resetPump p tank => Sys2Proof.Machine.execResetPump p tank s
  | .setService p account grace entries => Sys2Proof.Machine.execSetService p account grace entries s
  | .serviceDone p account cls => Sys2Proof.Machine.execServiceDone p account cls s
  | .productSet p product cls alpha => Sys2Proof.Machine.execProductSet p product cls alpha s
  | .tankSet p tank settings inService opening => Sys2Proof.Machine.execTankSet p tank settings inService opening s
  | .stageStrap p tank start count rows => Sys2Proof.Machine.execStageStrap p tank start count rows s
  | .applyStrap p tank count => Sys2Proof.Machine.execApplyStrap p tank count s
  | .openDelivery p station tank docket => Sys2Proof.Machine.execOpenDelivery p station tank docket s
  | .closeDelivery p station abort => Sys2Proof.Machine.execCloseDelivery p station abort s
  | .closeStock p tank => Sys2Proof.Machine.execCloseStock p tank s
  | .stopZone p zone => Sys2Proof.Machine.execStopZone p zone s
  | .releaseZone p zone => Sys2Proof.Machine.execReleaseZone p zone s
  | .stopBay p => Sys2Proof.Machine.execStopBay p s
  | .releaseBay p => Sys2Proof.Machine.execReleaseBay p s
  | .bypass p kind number duration => Sys2Proof.Machine.execBypass p kind number duration s
  | .endBypass p kind number => Sys2Proof.Machine.execEndBypass p kind number s
  | .pointSet p point settings inService => Sys2Proof.Machine.execPointSet p point settings inService s
  | .islandSet p island configured idleTime => Sys2Proof.Machine.execIslandSet p island configured idleTime s
  | .zoneSet p zone configured confirmTime => Sys2Proof.Machine.execZoneSet p zone configured confirmTime s
  | .stationSet p station settings => Sys2Proof.Machine.execStationSet p station settings s
  | .setRoles p a b c => Sys2Proof.Machine.execSetRoles p a b c s
  | .setQueues p a b c => Sys2Proof.Machine.execSetQueues p a b c s
  | .setClock p time => Sys2Proof.Machine.execSetClock p time s
  | .attach p named => Sys2Proof.Machine.execAttach p named s
  | .detach p named => Sys2Proof.Machine.execDetach p named s
  | .restart p => Sys2Proof.Machine.execRestart p s
  | .clearAll p => Sys2Proof.Machine.execClearAll p s
  | .frameReceived p byte => Sys2Proof.Machine.execFrameReceived p byte s
  | .portGapTimeout p => Sys2Proof.Machine.execPortGapTimeout p s
  | .badByte p => Sys2Proof.Machine.execBadByte p s
  | .replySent p => Sys2Proof.Machine.execReplySent p s
  | .pollTimerExpiry island => Sys2Proof.Machine.execPollTimerExpiry island s
  | .idleReply island => Sys2Proof.Machine.execIdleReply island s
  | .tag island identity hours => Sys2Proof.Machine.execTag island identity hours s
  | .keys island digits => Sys2Proof.Machine.execKeys island digits s
  | .unitFault island code => Sys2Proof.Machine.execUnitFault island code s
  | .ack island => Sys2Proof.Machine.execAck island s
  | .islandReplyBad island bytes => Sys2Proof.Machine.execIslandReplyBad island bytes s
  | .islandReplyTimeout island => Sys2Proof.Machine.execIslandReplyTimeout island s
  | .islandReplyQuiet island bytes => Sys2Proof.Machine.execIslandReplyQuiet island bytes s
  | .islandClosedSwitch island closed => Sys2Proof.Machine.execIslandClosedSwitch island closed s
  | .visitIdleTimeout island => Sys2Proof.Machine.execVisitIdleTimeout island s
  | .nozzleLift point => Sys2Proof.Machine.execNozzleLift point s
  | .nozzleHang point => Sys2Proof.Machine.execNozzleHang point s
  | .meterPulse point => Sys2Proof.Machine.execMeterPulse point s
  | .authorizationTimeout point => Sys2Proof.Machine.execAuthorizationTimeout point s
  | .noFlowTimeout point => Sys2Proof.Machine.execNoFlowTimeout point s
  | .rateWindowExpiry point => Sys2Proof.Machine.execRateWindowExpiry point s
  | .holdTimerExpiry point => Sys2Proof.Machine.execHoldTimerExpiry point s
  | .closingQuietExpiry point => Sys2Proof.Machine.execClosingQuietExpiry point s
  | .closingMaximumExpiry point => Sys2Proof.Machine.execClosingMaximumExpiry point s
  | .probeSample address level water temp statusOk => Sys2Proof.Machine.execProbeSample address level water temp statusOk s
  | .probeReplyTimeout => Sys2Proof.Machine.execProbeReplyTimeout s
  | .gaugeSilenceExpiry tank => Sys2Proof.Machine.execGaugeSilenceExpiry tank s
  | .windowSettleExpiry tank => Sys2Proof.Machine.execWindowSettleExpiry tank s
  | .pumpConfirmOn tank => Sys2Proof.Machine.execPumpConfirmOn tank s
  | .pumpConfirmLost tank => Sys2Proof.Machine.execPumpConfirmLost tank s
  | .pumpStartTimeout tank => Sys2Proof.Machine.execPumpStartTimeout tank s
  | .pumpRunOnExpiry tank => Sys2Proof.Machine.execPumpRunOnExpiry tank s
  | .stationMeterPulse station => Sys2Proof.Machine.execStationMeterPulse station s
  | .stationSilenceExpiry station => Sys2Proof.Machine.execStationSilenceExpiry station s
  | .deliveryNoFlowExpiry station => Sys2Proof.Machine.execDeliveryNoFlowExpiry station s
  | .settlingQuietExpiry station => Sys2Proof.Machine.execSettlingQuietExpiry station s
  | .settlingMaximumExpiry station => Sys2Proof.Machine.execSettlingMaximumExpiry station s
  | .sensorScan readings => Sys2Proof.Machine.execSensorScan readings s
  | .zoneEmergencyStop zone pressed => Sys2Proof.Machine.execZoneEmergencyStop zone pressed s
  | .bayEmergencyStop pressed => Sys2Proof.Machine.execBayEmergencyStop pressed s
  | .confirmTimerExpiry zone => Sys2Proof.Machine.execConfirmTimerExpiry zone s
  | .bypassTimeExpiry kind number => Sys2Proof.Machine.execBypassTimeExpiry kind number s
  | .bayClockSecond => Sys2Proof.Machine.execBayClockSecond s
  | .powerFailWarning => Sys2Proof.Machine.execPowerFailWarning s
  | .powerFailWarningWithdrawn finds => Sys2Proof.Machine.execPowerFailWarningWithdrawn finds s
  | .powerOn finds => Sys2Proof.Machine.execPowerOn finds s
  | .resetLineAsserted => Sys2Proof.Machine.execResetLineAsserted s
  | .resetLineReleased finds => Sys2Proof.Machine.execResetLineReleased finds s
  | .portByteReceived p byte => Sys2Proof.Machine.execPortByteReceived p byte s
  | .powerFailure torn => Sys2Proof.Machine.execPowerFailure torn s

end Sys2Proof.Machine
end

