-- ==== Sys2Proof/WellFormed.lean ====
section
/-! DEFINITION. Which terms of `Instr` the lines of the part can carry: arguments inside the widths of their fields (R201,
R203, R206, R207) and events on lines that the bay has (00_scope, Numbering of objects). Ranges that a rule answers with a
status are not here: the part takes such a command and refuses it. -/

namespace Sys2Proof

/-- A number that `n` bytes carry (R201). -/
def fitsBytes (n v : Nat) : Bool := decide (v < 256 ^ n)

/-- The number of an object of which the bay has `count`. -/
def isLine (count n : Nat) : Bool := decide (1 ≤ n ∧ n ≤ count)

/-- An optional number that `n` bytes carry. -/
def fitsOption (n : Nat) : Option Nat → Bool
  | some v => fitsBytes n v
  | none => true

/-- The settings of TANK SET in their fields (R203). -/
def TankSettings.fits (c : TankSettings) : Bool :=
  fitsBytes 1 c.product && fitsBytes 1 c.zone && fitsBytes 1 c.probe && fitsBytes 4 c.capacity &&
    fitsBytes 4 c.highLimit && fitsBytes 4 c.lowCutoff && fitsBytes 2 c.gaugeSilence && fitsBytes 2 c.pumpStart &&
    fitsBytes 2 c.runOn && fitsBytes 2 c.settle && fitsBytes 4 c.windowBase && fitsBytes 1 c.windowPerMille &&
    fitsBytes 4 c.varianceBase && fitsBytes 1 c.variancePerMille && fitsBytes 4 c.trendLimit

/-- The settings of POINT SET in their fields (R203). -/
def PointSettings.fits (c : PointSettings) : Bool :=
  fitsBytes 1 c.island && fitsBytes 1 c.zone && fitsBytes 1 c.tank && fitsBytes 4 c.k100 && fitsBytes 4 c.maxFlow &&
    fitsBytes 4 c.minDispense && fitsBytes 4 c.maxDispense && fitsBytes 4 c.slowdown && fitsBytes 4 c.lubePreset &&
    fitsBytes 2 c.authTimeout && fitsBytes 2 c.noFlow && fitsBytes 2 c.holdLimit && fitsBytes 2 c.quietTime &&
    fitsBytes 2 c.passingAllowance

/-- The settings of STATION SET in their fields (R203). -/
def StationKept.fits (c : StationKept) : Bool :=
  fitsBytes 1 c.zone && fitsBytes 4 c.k100 && fitsBytes 1 c.probe && fitsBytes 2 c.noFlow

/-- The arguments of ACCOUNT SET in their fields (R203). -/
def AccountArgs.fits (x : AccountArgs) : Bool :=
  fitsBytes 1 x.cls && fitsBytes 4 x.capacity && fitsBytes 1 x.hourSource && fitsOption 4 x.rollover &&
    (match x.band with
      | some (lo, hi) => fitsBytes 4 lo && fitsBytes 4 hi
      | none => true) &&
    fitsOption 4 x.limp && fitsBytes 4 x.meter

/-- One entry of SET SERVICE in its fields (R203). -/
def ServiceArgs.fits (e : ServiceArgs) : Bool := fitsBytes 1 e.cls && fitsBytes 4 e.interval && fitsOption 4 e.since

/-- A body of SET SERVICE holds at most 24 entries: 8 + 10 × 24 = 248 bytes of at most 250 (R176, R203). -/
def serviceCountOk (l : List ServiceArgs) : Bool := decide (l.length ≤ 24)

/-- A memory's contents as the memory line can hold them: accounts and slots listed once each, rising (R192). -/
def risingKeys {α : Type} : List (Nat × α) → Bool
  | [] => true
  | [_] => true
  | x :: y :: rest => decide (x.1 < y.1) && risingKeys (y :: rest)

/-- Stored contents that have the one form of their keyed lists. -/
def Retained.ordered (r : Retained) : Bool := risingKeys r.accounts && risingKeys r.records

/-- A memory whose contents, and those of a complete group, have the one form of their keyed lists. -/
def Memory.ordered (m : Memory) : Bool :=
  m.stored.ordered &&
    match m.area with
    | .complete _ new => new.ordered
    | .settled | .incomplete => true

/-- New strap patterns, if any, are of three bits. -/
def strapsFit (straps : Option (Bank Nat 3)) : Bool :=
  match straps with
  | some b => b.items.all fun n => decide (n < 8)
  | none => true

/-- What a start finds, and those that RESTART or CLEAR ALL makes after it: strap patterns of three bits, and an ordered
memory. -/
def StartFinds.fits (f : StartFinds) : Bool :=
  strapsFit f.straps && (f.later.all fun c => strapsFit c.straps) &&
    match f.memory with
    | some m => m.ordered
    | none => true

/-- The state of a torn write group: its contents ordered. -/
def Torn.fits : Torn → Bool
  | .complete _ new _ => new.ordered
  | .none | .incomplete => true

/-- A term that the lines of the part can carry. -/
def Instr.wellFormed : Instr → Bool
  | .readPoint _ n | .readStation _ n | .readZone _ n | .readIsland _ n | .readPort _ n | .collectNotices _ n
  | .collectRecords _ n | .cancel _ n | .hold _ n | .resume _ n | .abort _ n | .resetPump _ n | .closeDelivery _ n _
  | .closeStock _ n | .stopZone _ n | .releaseZone _ n | .attach _ n | .detach _ n => fitsBytes 1 n
  | .readTank _ a b | .pointService _ a b | .applyStrap _ a b | .endBypass _ a b => fitsBytes 1 a && fitsBytes 1 b
  | .readAccount _ a | .accountBar _ a | .accountUnbar _ a | .vacate _ a => fitsBytes 2 a
  | .findTag _ _ | .stopBay _ | .releaseBay _ | .setRoles _ _ _ _ | .restart _ | .clearAll _ => true
  | .authorize _ i a q _ _ => fitsBytes 1 i && fitsBytes 2 a && fitsBytes 4 q
  | .accountSet _ a x => fitsBytes 2 a && x.fits
  | .enterHours _ a h => fitsBytes 2 a && fitsBytes 3 h
  | .fieldTransfer _ sv x q h => fitsBytes 2 sv && fitsBytes 2 x && fitsBytes 4 q && fitsOption 4 h
  | .setService _ a g l => fitsBytes 2 a && fitsBytes 4 g && (l.all fun e => e.fits) && serviceCountOk l
  | .serviceDone _ a c => fitsBytes 2 a && fitsBytes 1 c
  | .productSet _ n c alpha => fitsBytes 1 n && fitsBytes 1 c && fitsBytes 2 alpha
  | .tankSet _ t c _ opening => fitsBytes 1 t && c.fits && fitsBytes 4 opening
  | .stageStrap _ t i n rows =>
    fitsBytes 1 t && fitsBytes 1 i && fitsBytes 1 n && decide (rows.length ≤ 42) &&
      rows.all fun r => fitsBytes 2 r.level && fitsBytes 4 r.vol
  | .openDelivery _ n t docket => fitsBytes 1 n && fitsBytes 1 t && fitsOption 4 docket
  | .bypass _ k n d => fitsBytes 1 k && fitsBytes 1 n && fitsBytes 2 d
  | .pointSet _ i c _ => fitsBytes 1 i && c.fits
  | .islandSet _ i _ n | .zoneSet _ i _ n => fitsBytes 1 i && fitsBytes 2 n
  | .stationSet _ n c => fitsBytes 1 n && c.fits
  | .setQueues _ a b c => fitsBytes 1 a && fitsBytes 1 b && fitsBytes 1 c
  | .setClock _ n => fitsBytes 4 n
  | .frameReceived _ _ | .portByteReceived _ _ | .portGapTimeout _ | .badByte _ | .replySent _ => true
  | .pollTimerExpiry i | .idleReply i | .ack i | .islandReplyBad i _ | .islandReplyTimeout i
  | .islandClosedSwitch i _ | .visitIdleTimeout i => isLine 4 i
  | .tag i _ h => isLine 4 i && fitsOption 3 h
  | .keys i l => isLine 4 i && decide (l.length ≤ 255) && l.all fun d => fitsBytes 1 d
  | .unitFault i c => isLine 4 i && fitsBytes 1 c
  | .islandReplyQuiet i _ => isLine 4 i
  | .nozzleLift i | .nozzleHang i | .meterPulse i | .authorizationTimeout i | .noFlowTimeout i | .rateWindowExpiry i
  | .holdTimerExpiry i | .closingQuietExpiry i | .closingMaximumExpiry i => isLine 12 i
  | .probeSample a l w t _ =>
    fitsBytes 1 a && fitsBytes 2 l && fitsBytes 2 w && decide (-32768 ≤ t ∧ t ≤ 32767)
  | .probeReplyTimeout | .sensorScan _ | .bayEmergencyStop _ | .bayClockSecond | .powerFailWarning
  | .resetLineAsserted => true
  | .gaugeSilenceExpiry t | .windowSettleExpiry t | .pumpConfirmOn t | .pumpConfirmLost t | .pumpStartTimeout t
  | .pumpRunOnExpiry t => isLine 8 t
  | .stationMeterPulse n | .stationSilenceExpiry n | .deliveryNoFlowExpiry n | .settlingQuietExpiry n
  | .settlingMaximumExpiry n => isLine 2 n
  | .zoneEmergencyStop z _ | .confirmTimerExpiry z => isLine 6 z
  | .bypassTimeExpiry k n => (decide (k = 1) && isLine 6 n) || (decide (k = 2) && isLine 8 n)
  | .powerFailWarningWithdrawn f | .powerOn f | .resetLineReleased f => f.fits
  | .powerFailure t => t.fits

end Sys2Proof
end

