-- ==== Sys2Proof/Safety.lean ====
section
/-! DEFINITION. What claims say about the part: a part ready to take an event, what a command or an event did and what it
left alone, and the invariants of the whole part (R31, R182, R183, R193). -/

namespace Sys2Proof.Machine

/-! ## Before an event -/

/-- The part runs, no event is half done, and the memory takes every write (R193, R197). -/
abbrev State.Ready (s : State) : Prop :=
  s.mode = .running ∧ s.touched = [] ∧ s.mem.answers = true ∧ s.mem.fates = []

/-- No reply is being sent at a port and no command is outstanding there (R178). -/
abbrev State.Quiet (s : State) (p : PortId) : Prop := (s.port p).waiting = none ∧ (s.port p).sending = false

/-- The part is ready for a command with a code at a port whose roles permit it (R178, R180). -/
abbrev State.Takes (s : State) (p : PortId) (code : Nat) : Prop :=
  s.Ready ∧ s.Quiet p ∧ permitted s p code = true

/-- The tank of a point. -/
def State.tankOf (s : State) (i : Nat) : Tank := s.tank (s.point i).settings.tank

/-- The net increment that the next save of a point hands on (R63). -/
def State.increment (s : State) (i : Nat) : Nat := (s.point i).net - (s.point i).recorded

/-- A save of point `i`, standing as `p`, stops no fill of its tank: the gauge is FRESH, or book net stays above the low
cutoff (R26, R29). -/
abbrev State.SaveStopsNone (s : State) (i : Nat) (p : Point) : Prop :=
  (s.tankOf i).gauge = .fresh ∨
    ((s.tankOf i).settings.lowCutoff : Int) < (s.tankOf i).book - (p.net - p.recorded : Nat)

/-- The basis of a point's tank stays above its low cutoff when the point is saved (R25, R26). -/
abbrev State.BasisStaysAbove (s : State) (i : Nat) (p : Point) : Prop :=
  ((s.tankOf i).settings.lowCutoff : Int) <
    if (s.tankOf i).gauge = .fresh then ((s.tankOf i).net : Int) else (s.tankOf i).book - (p.net - p.recorded : Nat)

/-- What R52, steps 2 to 6, asks of a point, its tank, its zones and the bay. -/
abbrev State.Open (s : State) (i : Nat) : Prop :=
  (s.point i).state = .idle ∧ (s.tankOf i).status = .inService ∧ (s.tankOf i).pump.state ≠ .fault ∧
    s.zoneState (s.point i).settings.zone = .normal ∧ s.zoneState (s.tankZoneOf i) = .normal ∧ s.bay.stopped = false

/-! ## After it -/

/-- Everything but the memory and the marks of the event in hand. What the memory holds is `InStep`'s. -/
def State.apart (s : State) : State := { s with mem := Memory.formatted, touched := [] }

/-- An event is taken, and leaves the part as `u` is. -/
def Makes (i : Instr) (s u : State) : Prop := ∃ t, exec i s = .next t ∧ t.apart = u.apart

/-- A command is taken and leaves the part as `u` is, its reply with answer `a` begun at its port. -/
def Does (i : Instr) (p : PortId) (code : Nat) (s : State) (a : Answer) (u : State) : Prop :=
  Makes i s (beginReply p (BitVec.ofNat 8 code) a u)

/-- A command is refused, or shows something, with answer `a`: nothing changes but the reply. -/
def Answers (i : Instr) (p : PortId) (code : Nat) (s : State) (a : Answer) : Prop :=
  exec i s = .next (beginReply p (BitVec.ofNat 8 code) a s)

/-- What the events of points, tanks, islands, stations and zones leave alone, whatever they set off: the part's mode,
pins, roles, clock and products, the ports' attachments, and the settings of every object. -/
abbrev State.Steady (s t : State) : Prop :=
  t.mode = s.mode ∧ t.unreadable = s.unreadable ∧ t.env = s.env ∧ t.roles = s.roles ∧ t.queueK = s.queueK ∧
    t.clock = s.clock ∧ t.products = s.products ∧ t.probeLast = s.probeLast ∧ t.portLog = s.portLog ∧
    t.skipped = s.skipped ∧ t.pending = s.pending ∧
    (∀ k, (t.tank k).settings = (s.tank k).settings ∧ (t.tank k).status = (s.tank k).status ∧
      (t.tank k).live = (s.tank k).live ∧ (t.tank k).staging = (s.tank k).staging) ∧
    (∀ i, (t.point i).settings = (s.point i).settings) ∧
    (∀ i, (t.island i).toIslandKept = (s.island i).toIslandKept) ∧
    (∀ n, (t.station n).toStationKept = (s.station n).toStationKept) ∧
    ∀ z, (t.zone z).toZoneKept = (s.zone z).toZoneKept

/-- The reply begun at a port carries a command code and an answer (R180). -/
abbrev Told (t : State) (p : PortId) (code : Nat) (a : Answer) : Prop :=
  ((t.port p).tx.map fun r => (r.code, r.answer)) = some (BitVec.ofNat 8 code, a)

/-- The notice that joins a port's queue, or none: the port is in the audience and has room (R183). -/
def joins (s : State) (p : PortId) (aud : Audience) (n : Notice) : List Notice :=
  if inAudience s p aud = true ∧ (s.port p).queue.length < s.queueLength p then [n] else []

/-- Another point than `i` asks the pump of its tank to run (R32). -/
def State.othersRun (s : State) (i : Nat) : Bool :=
  ((numbers 12).any fun j =>
      j != i && (s.point j).settings.tank == (s.point i).settings.tank &&
        decide ((s.point j).state = .starting ∨ (s.point j).state = .flowing)) &&
    decide ((s.tankOf i).status = .inService) && decide (s.zoneState (s.tankZoneOf i) = .normal) && !s.bay.stopped

/-- The pump of a point's tank once that point asks nothing of it (R33, R34). -/
def State.pumpWithout (s : State) (i : Nat) : Pump :=
  let k := s.tankOf i
  if s.othersRun i then k.pump
  else
    match k.pump.state with
    | .starting => ⟨.off, none, none⟩
    | .running => if k.settings.runOn = 0 then ⟨.off, none, none⟩ else ⟨.runOn, none, some k.settings.runOn⟩
    | .off | .runOn | .fault => k.pump

/-- The accounts once an increment of a grant's dispense has been handed on (R63, R108): those of `accountSave`, which
the statement on saves spells out. -/
def State.accountsSaved (s : State) (i : Nat) (g : Grant) (inc : Nat) : List (Nat × Account) :=
  match g.account with
  | some a => (accountSave a (s.pointClass i) inc s).accounts
  | none => s.accounts

/-- A point as its save leaves it (R63). -/
def Point.withSave (p : Point) : Point := { p with savedGross := p.gross, recorded := p.net }

/-- The state after a save of point `i`, which then stands as `p` with grant `g`: its tank, changed otherwise by `f`,
its account and its in-flight entry take the net increment together (R29, R63, R108, R195). -/
def State.saved (s : State) (i : Nat) (g : Grant) (p : Point) (f : Tank → Tank) : State :=
  let t := (s.point i).settings.tank
  { s with
    points := s.points.set i p.withSave
    tanks := s.tanks.set t ((f (s.tank t)).takeDispense i (p.net - p.recorded) p.net)
    accounts := s.accountsSaved i g (p.net - p.recorded)
    inflight := s.inflight.set i (some (.dispense (dispenseImage i p.withSave g (s.tank t).settings.product))) }

/-- A point with a pulse counted into its dispense (R2, R3, R7, R62). -/
def Point.counted (p : Point) : Point :=
  let pulses := min (p.pulses + 1) 4294967295
  { p with
    pulses := pulses, gross := grossOf pulses p.k100, net := netOf (grossOf pulses p.k100) p.factor }

/-- A point as a pulse counted in FLOWING leaves it (R50, R62, R64). -/
def Point.pulsed (p : Point) : Point :=
  { p.counted with
    noFlowLeft := some p.settings.noFlow, ratePulses := min (p.ratePulses + 1) 4294967295
    fast := p.fast && decide ((p.settings.slowdown : Int) < (p.preset : Int) - p.counted.net) }

/-- A point as the start of its dispense makes it, with the snapshot of its settings and of its tank's temperature
(R59). -/
def State.startSnapshot (s : State) (i : Nat) (g : Grant) (spill : Bool) : Point :=
  let k := s.tankOf i
  { s.point i with
    authLeft := none, preset := g.preset, k100 := (s.point i).settings.k100, temp := workingTemp k.temp
    flags := k.flags, factor := factorOf (s.product k.settings.product).alpha (workingTemp k.temp), pulses := 0
    gross := 0, net := 0, savedGross := 0, recorded := 0, started := s.now, endCode := none, holdMaster := false
    holdSpill := spill }

/-- The pump of a point's tank once the point asks nothing of it, as a change of the tank. -/
def State.pumpLeft (s : State) (i : Nat) (k : Tank) : Tank := { k with pump := s.pumpWithout i }

/-- The state with the nozzle switch of a point at a level. -/
def State.withNozzle (s : State) (i : Nat) (lifted : Bool) : State :=
  { s with env := { s.env with nozzles := s.env.nozzles.set i lifted } }

/-- A point as an entry into CLOSING makes it (R70). -/
def Point.closing (p : Point) (code : EndCode) : Point :=
  { p with
    state := .closing, fast := false, holdMaster := false, holdSpill := false, noFlowLeft := none, rateLeft := none
    ratePulses := 0, exceed := 0, holdLeft := none, quietLeft := some p.settings.quietTime, maxLeft := some 15
    endCode := some code }

/-- A point as an entry into HELD makes it, its causes already set (R66). -/
def Point.holding (p : Point) : Point :=
  { p with
    state := .held, fast := false, noFlowLeft := none, rateLeft := none, ratePulses := 0, exceed := 0
    holdLeft := some p.settings.holdLimit }

/-- A point as an entry into STARTING makes it (R60, R76). -/
def Point.starting (p : Point) : Point :=
  { p with state := .starting, creep := 0, creepTold := false, holdLeft := none }

/-- A point as an entry into FLOWING makes it (R50, R60). -/
def Point.flowing (p : Point) : Point :=
  { p.starting with
    state := .flowing, fast := decide ((p.settings.slowdown : Int) < (p.preset : Int) - p.net)
    noFlowLeft := some p.settings.noFlow, rateLeft := some Config.rateWindow, ratePulses := 0, exceed := 0 }

/-- A tank whose settle timer has stopped, and whose pump is `u` (R33, R41). -/
def Tank.moved (k : Tank) (u : Pump) : Tank := { k with pump := u, window := { k.window with settle := none } }

/-- A tank whose movement window opens if it is closed and the gauge is FRESH (R38). -/
def Tank.opened (k : Tank) : Tank :=
  if k.gauge = .fresh ∧ k.window.isOpen = false then { k with window := ⟨true, k.net, 0, 0, 0, none, 0⟩ } else k

/-- The state after point `i`, standing as `p` with grant `g`, has entered STARTING, by the state of its tank's pump:
FAULT closes the dispense, OFF starts the pump, STARTING waits for it, RUNNING and RUN_ON let it flow (R33, R34, R36,
R60). -/
def State.starts (s : State) (i : Nat) (g : Grant) (p : Point) : State :=
  let k := s.tankOf i
  match k.pump.state with
  | .fault => s.saved i g (p.starting.closing .pumpFault) fun k => k.moved k.pump
  | .off => s.saved i g p.starting fun k => k.moved ⟨.starting, some k.settings.pumpStart, none⟩
  | .starting => s.saved i g p.starting fun k => k.moved k.pump
  | .running => (s.saved i g p.flowing fun k => k.moved k.pump).modTank (s.point i).settings.tank Tank.opened
  | .runOn => (s.saved i g p.flowing fun k => k.moved ⟨.running, none, none⟩).modTank (s.point i).settings.tank Tank.opened

/-- What the entry into STARTING needs for `State.starts` to say all it does: a run request can be made, an OFF pump's
confirm is off, a point that flows has a quantity left and a tank above its low cutoff (R26, R32, R33, R60). -/
def State.MayStart (s : State) (i : Nat) (p : Point) : Prop :=
  match (s.tankOf i).pump.state with
  | .fault | .starting => s.SaveStopsNone i p
  | .off =>
    s.SaveStopsNone i p ∧ (s.tankOf i).status = .inService ∧ s.zoneState (s.tankZoneOf i) = .normal ∧
      s.bay.stopped = false ∧ s.env.confirms.getD (s.point i).settings.tank false = false
  | .running | .runOn => s.BasisStaysAbove i p ∧ p.net < p.preset

/-! ## Invariants -/

/-- The contents a memory may give at a start: what is stored, and what a complete group holds (R193). -/
def contentsOf (m : Memory) : List Retained :=
  m.stored ::
    match m.area with
    | .complete _ new => [new]
    | .settled | .incomplete => []

/-- The contents that the operands of a command bring from outside (DESIGN CHOICE: notes/assumptions/12.md). -/
def brings : Instr → List Retained
  | .powerOn f | .powerFailWarningWithdrawn f | .resetLineReleased f =>
    match f.memory with
    | some m => contentsOf m
    | none => []
  | .powerFailure (.complete _ new _) => [new]
  | _ => []

/-- A property of stored contents holds of all that a state's memory may give. -/
abbrev State.stores (s : State) (f : Retained → Prop) : Prop := ∀ r ∈ contentsOf s.mem, f r

/-- Some port holds SAFETY and some port holds SUPERVISOR (R182). -/
abbrev bothHeld (b : Bank RoleSet 3) : Prop :=
  (b.items.any fun r => r.safety) = true ∧ (b.items.any fun r => r.supervisor) = true

/-- In every state at least one port holds SAFETY and at least one holds SUPERVISOR (R182). -/
def RolesHeld (s : State) : Prop := bothHeld s.roles ∧ s.stores fun r => bothHeld r.roles

/-- Queue lengths of 32 × k, k from 1 to 8, that sum to at most 384 (R183). -/
abbrev lengthsFit (b : Bank Nat 3) : Prop :=
  (∀ k ∈ b.items, 1 ≤ k ∧ k ≤ 8) ∧ 32 * (b.items.foldl (· + ·) 0) ≤ 384

/-- A queue never holds more notices than its length, and the lengths never sum to more than 384 (R183). -/
def QueuesFit (s : State) : Prop :=
  (∀ p : PortId, (s.port p).queue.length ≤ s.queueLength p) ∧ lengthsFit s.queueK ∧
    s.stores fun r => lengthsFit r.queueK

/-- Book net is opening plus receipts less dispensed since the last close (R31). -/
abbrev balanced (k : TankKept) : Prop := k.book = k.opening + k.receipts - k.dispensed

/-- Every tank's book is balanced, in the part and in the memory (R31). -/
def BooksBalance (s : State) : Prop :=
  (∀ k ∈ s.tanks.items, balanced k.toTankKept) ∧ s.stores fun r => ∀ k ∈ r.tanks.items, balanced k

/-- The memory holds, whole, what the part's own figures call for (R192, R193). -/
def InStep (s : State) : Prop :=
  s.unreadable = false ∧ s.mem.bad = [] ∧ s.mem.area = .settled ∧ s.mem.stored = image s ∧
    risingKeys s.accounts = true

/-- What a safe run of the part keeps. -/
def Safe (s : State) : Prop := RolesHeld s ∧ QueuesFit s ∧ BooksBalance s

/-- A receiver that waits for the last byte of a frame that carries RESTART or CLEAR ALL (R176, R189, R190). -/
def restartAwaited (s : State) (p : PortId) : Bool :=
  match (s.port p).rx with
  | .check body (some _) => byteAt body 0 == 0x69 || byteAt body 0 == 0x6A
  | _ => false

/-- The commands that make a start, in a row or in a frame, and the loss of power. -/
def mayStart (s : State) : Instr → Bool
  | .restart _ | .clearAll _ | .powerOn _ | .resetLineReleased _ | .powerFailWarningWithdrawn _ | .powerFailure _ => true
  | .frameReceived l _ | .portByteReceived l _ => restartAwaited s l.port
  | _ => false

/-- The number of objects of a kind and the number of the one whose line an event comes from (00_scope, Numbering of
objects); none for a command and for an event of the part as a whole. -/
def lineOf : Instr → Option (Nat × Nat)
  | .nozzleLift n | .nozzleHang n | .meterPulse n | .authorizationTimeout n | .noFlowTimeout n | .rateWindowExpiry n
  | .holdTimerExpiry n | .closingQuietExpiry n | .closingMaximumExpiry n => some (12, n)
  | .gaugeSilenceExpiry n | .windowSettleExpiry n | .pumpConfirmOn n | .pumpConfirmLost n | .pumpStartTimeout n
  | .pumpRunOnExpiry n => some (8, n)
  | .zoneEmergencyStop n _ | .confirmTimerExpiry n => some (6, n)
  | .pollTimerExpiry n | .idleReply n | .tag n _ _ | .keys n _ | .unitFault n _ | .ack n | .islandReplyBad n _
  | .islandReplyTimeout n | .islandReplyQuiet n _ | .islandClosedSwitch n _ | .visitIdleTimeout n => some (4, n)
  | .stationMeterPulse n | .stationSilenceExpiry n | .deliveryNoFlowExpiry n | .settlingQuietExpiry n
  | .settlingMaximumExpiry n => some (2, n)
  | _ => none

/-- The port that sends a command, and its code (R203); an event has none. -/
def sender : Instr → Option (PortId × Nat)
  | .readPoint p _ => some (p, 0x01) | .readTank p _ _ => some (p, 0x02) | .readStation p _ => some (p, 0x03)
  | .readAccount p _ => some (p, 0x04) | .findTag p _ => some (p, 0x05) | .readZone p _ => some (p, 0x06)
  | .readIsland p _ => some (p, 0x07) | .readPort p _ => some (p, 0x08) | .collectNotices p _ => some (p, 0x09)
  | .collectRecords p _ => some (p, 0x0A) | .authorize p .. => some (p, 0x20) | .cancel p _ => some (p, 0x21)
  | .hold p _ => some (p, 0x22) | .resume p _ => some (p, 0x23) | .abort p _ => some (p, 0x24)
  | .pointService p _ _ => some (p, 0x25) | .accountSet p _ _ => some (p, 0x28) | .accountBar p _ => some (p, 0x29)
  | .accountUnbar p _ => some (p, 0x2A) | .vacate p _ => some (p, 0x2B) | .enterHours p _ _ => some (p, 0x2C)
  | .fieldTransfer p .. => some (p, 0x2D) | .resetPump p _ => some (p, 0x2E) | .setService p .. => some (p, 0x30)
  | .serviceDone p _ _ => some (p, 0x31) | .productSet p .. => some (p, 0x40) | .tankSet p .. => some (p, 0x41)
  | .stageStrap p .. => some (p, 0x42) | .applyStrap p _ _ => some (p, 0x43) | .openDelivery p .. => some (p, 0x44)
  | .closeDelivery p _ _ => some (p, 0x45) | .closeStock p _ => some (p, 0x46) | .stopZone p _ => some (p, 0x50)
  | .releaseZone p _ => some (p, 0x51) | .stopBay p => some (p, 0x52) | .releaseBay p => some (p, 0x53)
  | .bypass p .. => some (p, 0x54) | .endBypass p _ _ => some (p, 0x55) | .pointSet p .. => some (p, 0x60)
  | .islandSet p .. => some (p, 0x61) | .zoneSet p .. => some (p, 0x62) | .stationSet p .. => some (p, 0x63)
  | .setRoles p .. => some (p, 0x64) | .setQueues p .. => some (p, 0x65) | .setClock p _ => some (p, 0x66)
  | .attach p _ => some (p, 0x67) | .detach p _ => some (p, 0x68) | .restart p => some (p, 0x69)
  | .clearAll p => some (p, 0x6A)
  | _ => none

/-- The roles that permit a command code (9.6, 9.7). -/
def mayUse (code : Nat) (r : RoleSet) : Bool :=
  if code ≤ 0x0A then true
  else if code = 0x20 then r.dispatch || r.maintenance
  else if code = 0x2E then r.dispatch || r.stock
  else if code ≤ 0x2D then r.dispatch
  else if code ≤ 0x31 then r.maintenance
  else if code ≤ 0x46 then r.stock
  else if code ≤ 0x55 then r.safety
  else r.supervisor

/-- The rows that the part does not take at all while it does not run: neither a pin whose level stands outside the
part, nor the end of a reply already begun, nor power, the warning and the reset line (R196, R197). -/
def needsRunning : Instr → Bool
  | .nozzleLift _ | .nozzleHang _ | .pumpConfirmOn _ | .pumpConfirmLost _ | .islandClosedSwitch _ _
  | .zoneEmergencyStop _ _ | .bayEmergencyStop _ | .replySent _ | .powerFailWarning | .powerFailWarningWithdrawn _
  | .powerOn _ | .resetLineAsserted | .resetLineReleased _ | .powerFailure _ => false
  | _ => true

end Sys2Proof.Machine
end

