-- ==== Sys2Proof/Certificates/Slice0/Obligations.lean ====
section
/-! DEFINITION. The statements for the provers: what each command and each event of the part does, what the shared
operations do, and what every step keeps. `Does`, `Makes` and `Answers` (Safety.lean) say what the part becomes, everything
the statement does not name staying as it was; the memory is the subject of `MemoryKeepsInStep`. -/

open Sys2Proof Sys2Proof.Machine

/-! ## The block -/

/-- A step takes the command at the front of the queue, with the queue's rest (95_what_each_step_holds: each step is
whole and indivisible). On an empty queue the block idles. The model's choice: notes/assumptions/8.md. A command takes
only itself from the queue of commands that wait: none changes what waits behind it. -/
def Obligations.StepRunsTheFrontCommand : Prop :=
  (∀ (c : Instr) (rest : List Instr) (s : State), s.pending = c :: rest → step s = exec c { s with pending := rest }) ∧
  (∀ s : State, s.pending = [] → step s = .next s) ∧
  ∀ (c : Instr) (s t : State), exec c s = .next t → t.pending = s.pending

/-- The part after reset meets every invariant stated below, and is ready for an event. POWER_ON on erased memory,
with every pin at rest, makes a cold start: the part is then `State.reset` (R197, R198, R200). That the pins are at
rest is the model's choice for reset: notes/assumptions/3.md. -/
def Obligations.PowerOnErasedMemoryGivesReset : Prop :=
  (RolesHeld State.reset ∧ QueuesFit State.reset ∧ BooksBalance State.reset ∧ InStep State.reset ∧ State.reset.Ready) ∧
  ∀ s : State, s.env = Env.rest → s.mem.answers = true → s.mem.marker = .erased → s.mem.fates = [] →
    (∀ p : PortId, (s.port p).tx = none) →
    exec (.powerOn StartFinds.unchanged) s = .next { State.reset with freeCount := s.freeCount, pending := s.pending }

/-- In every state at least one port holds SAFETY and at least one holds SUPERVISOR (R182), where what a start or a
power failure brings from outside has it too. -/
def Obligations.RolesStayHeld : Prop :=
  ∀ (s t : State) (c : Instr) (rest : List Instr), s.pending = c :: rest → (∀ r ∈ brings c, bothHeld r.roles) →
    RolesHeld s → step s = .next t → RolesHeld t

/-- A port's queue never holds more notices than its length, and the lengths never sum to more than 384 (R183). -/
def Obligations.QueuesStayFit : Prop :=
  ∀ (s t : State) (c : Instr) (rest : List Instr), s.pending = c :: rest → (∀ r ∈ brings c, lengthsFit r.queueK) →
    QueuesFit s → step s = .next t → QueuesFit t

/-- Book net stays opening plus receipts less dispensed since the last close (R31). -/
def Obligations.BooksStayBalanced : Prop :=
  ∀ (s t : State) (c : Instr) (rest : List Instr), s.pending = c :: rest →
    (∀ r ∈ brings c, ∀ k ∈ r.tanks.items, balanced k) → BooksBalance s → step s = .next t → BooksBalance t

/-- Every event's changes reach retained memory whole (R192, R193): while no write fails, the memory holds after each
step what the part's own figures then call for, no change is left over and no write has failed, so that the next step
meets the same premises. A start, by a row or by a frame that carries RESTART or CLEAR ALL, and a loss of power are
not covered here. -/
def Obligations.MemoryKeepsInStep : Prop :=
  ∀ (s t : State) (c : Instr) (rest : List Instr), s.pending = c :: rest → mayStart s c = false →
    s.touched = [] → s.mem.answers = true → s.mem.fates = [] → InStep s → step s = .next t →
    InStep t ∧ t.touched = [] ∧ t.mem.answers = true ∧ t.mem.fates = []

/-- Every term that the lines of the part can carry is answered with a next state: the part itself never stops, each
of its refusals being a reply status (R180). Every event on a line of a point over 12, a tank over 8, a zone over 6,
an island over 4 or a station over 2, or of number 0, which the bay does not have, is the model's one fault (00_scope,
Numbering of objects; the model's choice: notes/assumptions/9.md). -/
def Obligations.EveryLineEventCompletes : Prop :=
  (∀ (c : Instr) (s : State), c.wellFormed = true → ∃ t, exec c s = .next t) ∧
  ∀ (c : Instr) (s : State) (count n : Nat), lineOf c = some (count, n) → ¬ (1 ≤ n ∧ n ≤ count) →
    exec c s = .fault .noSuchLine

/-! ## Commands, replies and notices (09) -/

/-- The role check of R180 reads the table of 9.7: a port that holds none of the roles that permit a command is
answered ROLE, and nothing else changes. SET ROLES replaces the role table (R182): RANGE for a bit that names no role,
STATE where no port would hold SAFETY or none SUPERVISOR. -/
def Obligations.CommandsNeedTheirRole : Prop :=
  (∀ (c : Instr) (p : PortId) (code : Nat) (s : State), sender c = some (p, code) →
    permitted s p code = mayUse code (s.rolesOf p) ∧
      (s.Ready → s.Quiet p → mayUse code (s.rolesOf p) = false → Answers c p code s ⟨.role, .empty⟩)) ∧
  ∀ (s : State) (p : PortId) (a b c : Byte), s.Takes p 0x64 →
    let table : Bank RoleSet 3 := ⟨[rolesOfByte a, rolesOfByte b, rolesOfByte c], rfl⟩
    let bad := rolesBad a = true ∨ rolesBad b = true ∨ rolesBad c = true
    (bad → Answers (.setRoles p a b c) p 0x64 s ⟨.range, .empty⟩) ∧
      (¬ bad → ¬ bothHeld table → Answers (.setRoles p a b c) p 0x64 s ⟨.state, .empty⟩) ∧
      (¬ bad → bothHeld table → Does (.setRoles p a b c) p 0x64 s ⟨.ok, .roles table⟩ { s with roles := table })

/-- A command whose reply carries a status other than OK has changed nothing but the reply, the memory included (R180,
R182, R185). Each reply carries both link flags as they stand when it begins, and clears them (R179); the links of the
other ports and this port's receiver stay as they were. RESTART and CLEAR ALL that are taken start the part instead. A
command row is taken as if the earlier replies of its port had been sent in full (the model's convention:
notes/assumptions/2.md), so that the statements below, made for a quiet port, hold for every state of its link. -/
def Obligations.RepliesCarryTheLinkFlags : Prop :=
  (∀ (c : Instr) (p : PortId) (code : Nat) (s t : State) (r : Reply), sender c = some (p, code) → s.mode = .running →
    s.touched = [] → s.Quiet p → exec c s = .next t → (t.port p).tx = some r → r.answer.status ≠ .ok →
    Answers c p code s r.answer) ∧
  (∀ (c : Instr) (p : PortId) (code : Nat) (s t : State), sender c = some (p, code) → s.mode = .running → s.Quiet p →
    code ≠ 0x69 → code ≠ 0x6A → exec c s = .next t →
    (∃ a, (t.port p).tx = some ⟨BitVec.ofNat 8 code, a, (s.port p).framing, (s.port p).overrun⟩) ∧
      (t.port p).sending = true ∧ (t.port p).waiting = none ∧ (t.port p).framing = false ∧
      (t.port p).overrun = false ∧ (t.port p).rx = (s.port p).rx ∧ (t.port p).gap = (s.port p).gap ∧
      (t.port p).rate = (s.port p).rate ∧
      ∀ q : PortId, q ≠ p →
        (t.port q).tx = (s.port q).tx ∧ (t.port q).sending = (s.port q).sending ∧
          (t.port q).waiting = (s.port q).waiting ∧ (t.port q).framing = (s.port q).framing ∧
          (t.port q).overrun = (s.port q).overrun ∧ (t.port q).rx = (s.port q).rx ∧
          (t.port q).gap = (s.port q).gap ∧ (t.port q).rate = (s.port q).rate) ∧
  ∀ (c : Instr) (p : PortId) (code : Nat) (s : State), sender c = some (p, code) → s.mode = .running →
    (drain p s).Quiet p ∧ exec c s = exec c (drain p s)

/-- A raised notice is offered once to each port in its audience: it joins the end of a queue that has room, and sets
the overflow flag of one that is full (R183). Nothing else changes. COLLECT NOTICES takes up to n notices from the
front of the port's own queue and returns them with the number left and the overflow flag, which it clears (R184). -/
def Obligations.NoticesAreQueuedAndCollected : Prop :=
  (∀ (kind : NoticeKind) (subject : SubjectKind) (number : Nat) (first second : Int) (s : State),
    let n : Notice := ⟨kind, s.now, subject, number, first, second⟩
    let t := raise kind subject number first second s
    { t with ports := s.ports } = s ∧
      ∀ p : PortId,
        t.port p =
          { s.port p with
            queue := (s.port p).queue ++ joins s p (audienceOf kind) n
            overflow :=
              (s.port p).overflow ||
                (inAudience s p (audienceOf kind) && decide (s.queueLength p ≤ (s.port p).queue.length)) }) ∧
  ∀ (s : State) (p : PortId) (n : Nat), s.Takes p 0x09 →
    let d := s.port p
    (¬ (1 ≤ n ∧ n ≤ 8) → Answers (.collectNotices p n) p 0x09 s ⟨.range, .empty⟩) ∧
      (1 ≤ n → n ≤ 8 →
        Does (.collectNotices p n) p 0x09 s
          ⟨.ok, .notices (d.queue.take n) (d.queue.length - n) d.overflow⟩
          (s.setPort p { d with queue := d.queue.drop n, overflow := false }))

/-! ## Quantities (01) -/

/-- A gross volume is corrected to net rounding half up, saturating at 4,294,967,295; with F = 10,000,000, as for an
UNCOMPENSATED source or a product with α = 0, net is gross; net does not fall as gross rises; the product stays inside
the working range of R1 (R7). -/
def Obligations.NetRoundsHalfUp : Prop :=
  ∀ g F : Nat,
    netOf g F = min ((g * F + 5000000) / 10000000) 4294967295 ∧
      (g ≤ 4294967295 → netOf g 10000000 = g) ∧
      (∀ t : Int, factorOf 0 t = 10000000) ∧ (∀ alpha : Nat, factorOf alpha (workingTemp TempSource.absent) = 10000000) ∧
      (∀ g' : Nat, g ≤ g' → netOf g F ≤ netOf g' F) ∧
      (3869339905 < g → netOf g 11100000 = 4294967295) ∧
      (g ≤ 4294967295 → F ≤ 11100000 → g * F + 5000000 < 2 ^ 63)

/-- Gross is recomputed from the whole pulse total, saturating; it does not fall, and below its limit each pulse
raises it by floor(10,000 / K100) or by one centilitre more (R3). An OK sample's temperature is clamped to −400 to 800
with its mark; the working temperature is the last good one or 150; exactly one of the three cases of R5 gives the
flags; the factor is 10,000,000 − α × (T − 150), between 8,700,000 and 11,100,000 (R4, R5, R6). -/
def Obligations.MeteredFiguresFollowTheirRules : Prop :=
  (∀ pulses k100 : Nat, 0 < k100 →
    grossOf pulses k100 = min (pulses * 10000 / k100) 4294967295 ∧
      grossOf pulses k100 ≤ grossOf (pulses + 1) k100 ∧
      ((pulses + 1) * 10000 / k100 ≤ 4294967295 →
        grossOf (pulses + 1) k100 = grossOf pulses k100 + 10000 / k100 ∨
          grossOf (pulses + 1) k100 = grossOf pulses k100 + 10000 / k100 + 1)) ∧
  ∀ (x : Int) (alpha : Nat) (hold : Bool), alpha ≤ 2000 →
    let src := sourceAfter x
    let T := workingTemp src
    T = (if x < -400 then -400 else if 800 < x then 800 else x) ∧ src.lastGood = some T ∧
      (src.clamped = true ↔ x < -400 ∨ 800 < x) ∧
      (factorOf alpha T : Int) = 10000000 - (alpha : Int) * (T - 150) ∧
      8700000 ≤ factorOf alpha T ∧ factorOf alpha T ≤ 11100000 ∧
      sourceFlags src hold = ⟨src.clamped, hold, false⟩ ∧
      workingTemp TempSource.absent = 150 ∧ sourceFlags TempSource.absent hold = ⟨false, false, true⟩

/-- A level is converted by straight-line interpolation between the two rows that bracket it, clamped at the ends of
the table; the volume does not fall as the level rises (R10, R11). -/
def Obligations.StrapTableInterpolates : Prop :=
  ∀ rows : List StrapRow, rows.Pairwise (fun a b => a.level < b.level ∧ a.vol ≤ b.vol) →
    (∀ (front back : List StrapRow) (r q : StrapRow) (level : Nat), rows = front ++ r :: q :: back →
      r.level ≤ level → level < q.level →
      volumeAt rows level = r.vol + (q.vol - r.vol) * (level - r.level) / (q.level - r.level)) ∧
      (∀ (r : StrapRow) (back : List StrapRow) (level : Nat), rows = r :: back → level < r.level →
        volumeAt rows level = r.vol ∧ aboveTable rows level = false) ∧
      (∀ (front : List StrapRow) (r : StrapRow) (level : Nat), rows = front ++ [r] →
        (r.level ≤ level → volumeAt rows level = r.vol) ∧ (aboveTable rows level = true ↔ r.level ≤ level)) ∧
      ∀ low high : Nat, low ≤ high → volumeAt rows low ≤ volumeAt rows high

/-- A reading is judged against the meter reading `l`, the rollover limit `m` and the time of last reading: RANGE,
then the delta by forward, wrap or REGRESSION, then JUMP (R14, R15). -/
def Obligations.ReadingsAreJudgedInOrder : Prop :=
  ∀ (clock : Clock) (l h : Nat) (m last : Option Nat),
    let outOfRange := 9999999 < h ∨ ∃ x, m = some x ∧ x ≤ h
    let jumps (d : Nat) := clock.set = true ∧ ∃ t, last = some t ∧ (clock.time - t) / 360 + 10 < d
    let wraps := h < l ∧ h < 10000 ∧ ∃ x, m = some x ∧ (x : Int) - 10000 ≤ l
    (outOfRange → judgeReading clock l m last h = .refused .range) ∧
      (¬ outOfRange → l ≤ h → jumps (h - l) → judgeReading clock l m last h = .refused .jump) ∧
      (¬ outOfRange → l ≤ h → ¬ jumps (h - l) → judgeReading clock l m last h = .accepted (h - l)) ∧
      (∀ x, m = some x → ¬ outOfRange → wraps → jumps (h + x - l) →
        judgeReading clock l m last h = .refused .jump) ∧
      (∀ x, m = some x → ¬ outOfRange → wraps → ¬ jumps (h + x - l) →
        judgeReading clock l m last h = .accepted (h + x - l)) ∧
      (¬ outOfRange → h < l → ¬ wraps → judgeReading clock l m last h = .refused .regression)

/-- A tank's stock basis is its gauge net while the gauge is FRESH and its book net otherwise; the low cutoff is
judged against it, every FLOWING or HELD point of the tank closing TANK_LOW at or below it; READ TANK returns the
basis and says which figure it is (R25). -/
def Obligations.StockBasisJudgesTheLowCutoff : Prop :=
  ∀ (s : State) (t : Nat),
    let k := s.tank t
    k.basis = (if k.gauge = .fresh then (k.net : Int) else k.book) ∧
      ((k.settings.lowCutoff : Int) < k.basis → evalLow t s = s) ∧
      (k.basis ≤ k.settings.lowCutoff → ∀ i, 1 ≤ i → i ≤ 12 → (s.point i).settings.tank = t →
        ((s.point i).state = .flowing ∨ (s.point i).state = .held) →
        ((evalLow t s).point i).state = .closing ∧ ((evalLow t s).point i).endCode = some .tankLow) ∧
      ∀ p : PortId, s.Ready → s.Quiet p → 1 ≤ t → t ≤ 8 →
        ∃ v, Answers (.readTank p t 0) p 0x02 s ⟨.ok, .tank v⟩ ∧ v.basis = k.basis ∧
          v.basisIsGauge = decide (k.gauge = .fresh)

/-- The preset of a new grant is the least of the terms that apply to it, and among terms that share it the reason is
the first of TANK, SERVICE_HOLD, CAPACITY, POINT_MAX and REQUEST (R53). -/
def Obligations.PresetIsTheLeastTerm : Prop :=
  ∀ (s : State) (i : Nat) (account : Option Account) (requested : Nat),
    let cfg := (s.point i).settings
    let fuel := s.pointClass i = .fuel
    let rank : LimitReason → Nat
      | .tank => 0 | .serviceHold => 1 | .capacity => 2 | .pointMax => 3 | .request => 4
    let applies (x : Nat × LimitReason) : Prop :=
      x = ((s.tank cfg.tank).available, .tank) ∨ x = (cfg.maxDispense, .pointMax) ∨
        (0 < requested ∧ x = (requested, .request)) ∨
        (requested = 0 ∧ fuel ∧ ∃ a, account = some a ∧ x = (a.capacity, .capacity)) ∨
        (requested = 0 ∧ ¬ fuel ∧ x = (cfg.lubePreset, .request)) ∨
        (fuel ∧ ∃ a, account = some a ∧ Account.underHold a = false ∧ x = (a.capacity, .capacity)) ∨
        (fuel ∧ ∃ a q, account = some a ∧ Account.underHold a = true ∧ a.limp = some q ∧ x = (q, .serviceHold))
    let r := presetOf s i account requested
    applies r ∧ ∀ x, applies x → r.1 ≤ x.1 ∧ (x.1 = r.1 → rank r.2 ≤ rank x.2)

/-- A save of a dispense hands its net increment to the tank, the account and the in-flight entry together: book net
falls, dispensed net, the commitment's recorded net and an open window's moved out follow, the account's fuel total
and its carried balance or pending fuel, or its lube total, rise (R29, R63, R108, R195). -/
def Obligations.SavesHandOnTheIncrement : Prop :=
  ∀ (s : State) (i : Nat) (g : Grant), 1 ≤ i → i ≤ 12 → (s.point i).grant = some g →
    1 ≤ (s.point i).settings.tank → (s.point i).settings.tank ≤ 8 →
    let p := s.point i
    let k := s.tankOf i
    let inc := s.increment i
    let t := saveCore i s
    { t with touched := [] } = { s.saved i g p id with touched := [] } ∧
      (t.tankOf i).book = k.book - inc ∧ (t.tankOf i).dispensed = k.dispensed + inc ∧
      (t.tankOf i).opening = k.opening ∧ (t.tankOf i).receipts = k.receipts ∧
      (k.window.isOpen = true → (t.tankOf i).window.movedOut = k.window.movedOut + inc) ∧
      (∀ c ∈ (t.tankOf i).commitments, c.point = i → c.recorded = p.net) ∧
      t.entry i = some (.dispense (dispenseImage i p.withSave g k.settings.product)) ∧
      ∀ a c, g.account = some a → s.account? a = some c → c.state ≠ .damaged →
        (s.pointClass i = .fuel →
          ∃ d, t.account? a = some d ∧ d.fuelTotal = min (c.fuelTotal + inc) 4294967295 ∧
            (c.cls = .service → d.carried = some (c.carried.getD 0 + inc) ∧ d.pending = c.pending) ∧
            (c.cls ≠ .service → d.pending = min (c.pending + inc) 4294967295 ∧ d.carried = c.carried)) ∧
        (s.pointClass i ≠ .fuel →
          ∃ d, t.account? a = some d ∧ d.lube = LubeTotals.add c.lube (s.pointClass i) inc ∧
            d.fuelTotal = c.fuelTotal ∧ d.pending = c.pending ∧ d.carried = c.carried)

/-! ## Dispense points (03) -/

/-- A slot reserved is the free slot of lowest number (R165), and the free count is 4,096 less held and reserved
(R164). AUTHORIZE that passes the checks of R52 takes a grant: a log slot, a commitment and the grant together, and
the point stands in AUTHORIZED with its timer running (R51, R52). That a requested preset above the 2,000,000 cL of
R52 is taken too is the model's choice: notes/assumptions/10.md. AUTHORIZE that passes the checks before the account
judges it: without BAY_USE a VACANT account is UNKNOWN, a BARRED or DAMAGED one BARRED (R52); with BAY_USE the
account's state is not asked, and a number above 511 is UNKNOWN (R101), in the place of the same check, which is the
model's choice: notes/assumptions/10.md. -/
def Obligations.AuthorizeTakesTheGrant : Prop :=
  (∀ (l : Log) (n : Nat), n < 4096 → l.slotFree n = true →
    l.slotFree l.lowest = true ∧ l.lowest ≤ n ∧ (∀ m, m < l.lowest → l.slotFree m = false) ∧
      l.free = 4096 - (l.held.length + l.reserved.length)) ∧
  (∀ (s : State) (p : PortId) (i account requested : Nat) (service bayUse : Bool) (a : Option Account),
    s.Takes p 0x20 → 1 ≤ i → i ≤ 12 → s.Open i →
    (s.pointClass i = .fuel → (s.rolesOf p).dispatch = true ∧ service = false) →
    (bayUse = true → (s.rolesOf p).dispatch = true ∧ service = false) →
    (service = true → (s.rolesOf p).maintenance = true) → (bayUse = true → account ≤ 511) →
    a = (if bayUse then none else s.account? account) →
    (bayUse = true ∨ a.map (fun c => c.state) = some .active) → 0 < s.log.free →
    (s.point i).settings.minDispense ≤ (presetOf s i a requested).1 →
    let d := s.point i
    let k := s.tankOf i
    let preset := presetOf s i a requested
    let g : Grant :=
      { account := if bayUse then none else some account, origin := .port p, preset := preset.1, limit := preset.2
        service := service, bayUse := bayUse, granted := s.now, visit := none }
    Does (.authorize p i account requested service bayUse) p 0x20 s ⟨.ok, .preset preset.1 preset.2⟩
      { judgeSpace { s with log := { s.log with reserved := s.log.reserved ++ [s.log.lowest] } } with
        tanks := s.tanks.set d.settings.tank
          { k with commitments := insertCommitment k.commitments ⟨i, preset.1, 0⟩ }
        points := s.points.set i
          { d with
            state := .authorized, grant := some g, slot := s.log.lowest, authLeft := some d.settings.authTimeout } }) ∧
  ∀ (s : State) (p : PortId) (i account requested : Nat) (service : Bool), s.Takes p 0x20 → 1 ≤ i → i ≤ 12 → s.Open i →
    (s.pointClass i = .fuel → (s.rolesOf p).dispatch = true ∧ service = false) →
    (service = true → (s.rolesOf p).maintenance = true) →
    (s.account? account = none →
      Answers (.authorize p i account requested service false) p 0x20 s ⟨.unknown, .empty⟩) ∧
      (∀ a, s.account? account = some a → a.state ≠ .active →
        Answers (.authorize p i account requested service false) p 0x20 s ⟨.barred, .empty⟩) ∧
      ((s.rolesOf p).dispatch = true → service = false → 511 < account →
        Answers (.authorize p i account requested service true) p 0x20 s ⟨.unknown, .empty⟩)

/-- A grant in AUTHORIZED is dropped without a record by CANCEL, by ABORT and by the authorization timer: the
commitment and the slot are released and the point is IDLE; the timer alone raises GRANT_EXPIRED (R57, R71). -/
def Obligations.GrantsAreDroppedWithoutRecord : Prop :=
  ∀ (s : State) (p : PortId) (i : Nat), 1 ≤ i → i ≤ 12 → (s.point i).state = .authorized →
    let d := s.point i
    let k := s.tankOf i
    let u : State :=
      { judgeSpace
          { s with
            tanks := s.tanks.set d.settings.tank
              { k with commitments := k.commitments.filter fun c => c.point != i }
            log := { s.log with reserved := s.log.reserved.erase d.slot } } with
        points := s.points.set i { d with state := .idle, grant := none, slot := 0, authLeft := none } }
    (s.Takes p 0x21 → Does (.cancel p i) p 0x21 s ⟨.ok, .empty⟩ u) ∧
      (s.Takes p 0x24 → Does (.abort p i) p 0x24 s ⟨.ok, .empty⟩ u) ∧
      ∀ g : Grant, s.Ready → d.grant = some g → d.authLeft = some 0 →
        Makes (.authorizationTimeout i) s (raise .grantExpired .point i (g.account.getD 0 : Nat) g.preset u)

/-- HOLD: from STARTING or FLOWING the point enters HELD with MASTER, its valve closed, its run request gone and a
save made; in HELD the cause joins or is already there; in any other state it is refused STATE (R66, R67). RESUME:
MASTER leaves the set; with SPILL left the point stays HELD, else it enters STARTING and the pump answers by its state
(R33, R34, R36, R60, R66, R68). -/
def Obligations.HoldAndResumeTheDispense : Prop :=
  (∀ (s : State) (p : PortId) (i : Nat), s.Takes p 0x22 → 1 ≤ i → i ≤ 12 →
    let d := s.point i
    (∀ g, d.state = .starting ∨ d.state = .flowing → d.grant = some g → s.SaveStopsNone i d →
      Does (.hold p i) p 0x22 s ⟨.ok, .newlyHeld⟩
        (s.saved i g ({ d with holdMaster := true } : Point).holding (s.pumpLeft i))) ∧
      (d.state = .held → d.holdMaster = true → Answers (.hold p i) p 0x22 s ⟨.ok, .alreadyHeld⟩) ∧
      (d.state = .held → d.holdMaster = false →
        Does (.hold p i) p 0x22 s ⟨.ok, .newlyHeld⟩ { s with points := s.points.set i { d with holdMaster := true } }) ∧
      (d.state ≠ .starting → d.state ≠ .flowing → d.state ≠ .held →
        Answers (.hold p i) p 0x22 s ⟨.state, .empty⟩)) ∧
  ∀ (s : State) (p : PortId) (i : Nat), s.Takes p 0x23 → 1 ≤ i → i ≤ 12 →
    let d := s.point i
    (d.state = .held → d.holdMaster = true → d.holdSpill = true →
      Does (.resume p i) p 0x23 s ⟨.ok, .stillHeld⟩
        { s with points := s.points.set i { d with holdMaster := false } }) ∧
      (∀ g, d.state = .held → d.holdMaster = true → d.holdSpill = false → d.grant = some g → s.MayStart i d →
        Does (.resume p i) p 0x23 s ⟨.ok, .resumed⟩ (s.starts i g { d with holdMaster := false })) ∧
      (¬ (d.state = .held ∧ d.holdMaster = true) → Answers (.resume p i) p 0x23 s ⟨.state, .empty⟩)

/-- An active dispense enters CLOSING by ABORT, by the nozzle hung, by the no-flow timer in FLOWING and by the hold
timer in HELD, each with its end code, the valve closed, the run request gone, the timers of CLOSING started and a
save made (R64, R66, R70, R71, R74). That the entry from HELD empties the hold cause set is the model's reading:
notes/assumptions/16.md. A nozzle hung in ENDED clears the dispense's figures and the point is IDLE, or out of service
with PASSING when its mark is set (R74, R77). R78 gives figures that read 0 for IDLE and AUTHORIZED only; that they
are cleared for a point that goes out of service too is the model's choice: notes/assumptions/14.md. -/
def Obligations.ActiveDispensesClose : Prop :=
  (∀ (s : State) (p : PortId) (i : Nat) (g : Grant), 1 ≤ i → i ≤ 12 →
    let d := s.point i
    (d.state = .starting ∨ d.state = .flowing ∨ d.state = .held) → d.grant = some g → s.SaveStopsNone i d →
    let u (code : EndCode) := s.saved i g (d.closing code) (s.pumpLeft i)
    (s.Takes p 0x24 → Does (.abort p i) p 0x24 s ⟨.ok, .empty⟩ (u .aborted)) ∧
      (s.Ready → s.env.nozzles.getD i false = true → Makes (.nozzleHang i) s ((u .hung).withNozzle i false)) ∧
      (s.Ready → d.state = .flowing → d.noFlowLeft = some 0 → Makes (.noFlowTimeout i) s (u .noFlow)) ∧
      (s.Ready → d.state = .held → d.holdLeft = some 0 → Makes (.holdTimerExpiry i) s (u .holdExpired))) ∧
  ∀ (s : State) (i : Nat), s.Ready → 1 ≤ i → i ≤ 12 → s.env.nozzles.getD i false = true →
    (s.point i).state = .ended →
    let d := (s.point i).cleared
    (d.passing = false →
      Makes (.nozzleHang i) s
        (({ s with points := s.points.set i { d with state := .idle } } : State).withNozzle i false)) ∧
      (d.passing = true →
        Makes (.nozzleHang i) s
          (raise .pointPassing .point i d.creep d.settings.passingAllowance
            (({ s with
                points := s.points.set i
                  { d with state := .outOfService, inService := false, reason := some .passing } } : State).withNozzle
              i false)))

/-- A nozzle lifted in AUTHORIZED starts the dispense with its snapshot: into STARTING with both zones NORMAL or in
SHUTDOWN, into HELD with SPILL while one is SUSPECT; in IDLE without a visit it raises UNAUTHORIZED_LIFT (R54, R55,
R59). That a start in HELD leaves the settle timer of the tank as it is is the model's reading of R41:
notes/assumptions/16.md. A nozzle lifted in IDLE under a visit that permits a grant takes it with origin VISIT: the
slot is reserved, the point joins the visit's dispense list, and the dispense starts at once (R51, R55, R94). -/
def Obligations.LiftsStartDispenses : Prop :=
  (∀ (s : State) (i : Nat), s.Ready → 1 ≤ i → i ≤ 12 → s.env.nozzles.getD i false = false →
    let d := s.point i
    let suspect := s.zoneState d.settings.zone = .suspect ∨ s.zoneState (s.tankZoneOf i) = .suspect
    (∀ g, d.state = .authorized → d.grant = some g → ¬ suspect → s.MayStart i (s.startSnapshot i g false) →
      Makes (.nozzleLift i) s ((s.starts i g (s.startSnapshot i g false)).withNozzle i true)) ∧
      (∀ g, d.state = .authorized → d.grant = some g → suspect → s.SaveStopsNone i (s.startSnapshot i g true) →
        Makes (.nozzleLift i) s
          ((s.saved i g (s.startSnapshot i g true).holding (s.pumpLeft i)).withNozzle i true)) ∧
      (d.state = .idle → d.settings.island = 0 ∨ (s.island d.settings.island).visit = none →
        Makes (.nozzleLift i) s (raise .unauthorizedLift .point i 1 d.settings.island (s.withNozzle i true))) ∧
      (d.state = .outOfService ∨ d.state = .closing → Makes (.nozzleLift i) s (s.withNozzle i true))) ∧
  ∀ (s : State) (i : Nat) (v : Visit) (a : Account), s.Ready → 1 ≤ i → i ≤ 12 →
    s.env.nozzles.getD i false = false → s.Open i →
    let d := s.point i
    let preset := presetOf s i (some a) 0
    1 ≤ d.settings.island → d.settings.island ≤ 4 → (s.island d.settings.island).visit = some v →
    v.phase = .ready → (s.island d.settings.island).line ≠ .fault → v.list.length < 4 →
    s.account? v.account = some a → a.state = .active → 0 < s.log.free → d.settings.minDispense ≤ preset.1 →
    let g : Grant :=
      { account := some v.account, origin := .visit, preset := preset.1, limit := preset.2, service := false
        bayUse := false, granted := s.now, visit := some d.settings.island }
    s.MayStart i (s.startSnapshot i g false) →
    ∃ t, exec (.nozzleLift i) s = .next t ∧ (s.withNozzle i true).Steady t ∧
      (t.point i).grant = some g ∧ (t.point i).slot = s.log.lowest ∧
      (t.point i).preset = preset.1 ∧ (t.point i).started = s.now ∧ (t.point i).net = 0 ∧
      ((t.point i).state = .starting ∨ (t.point i).state = .flowing) ∧
      (t.island d.settings.island).visit = some { v with list := v.list ++ [⟨i, true⟩], idle := none } ∧
      t.log.reserved = s.log.reserved ++ [s.log.lowest] ∧ t.log.held = s.log.held ∧
      (∀ j, j ≠ i → t.point j = s.point j) ∧ (∀ j, j ≠ d.settings.tank → t.tank j = s.tank j) ∧
      t.stations = s.stations ∧ t.zones = s.zones ∧ t.bay = s.bay

/-- A pulse in FLOWING is counted into the dispense; at 100 cL of gross progress it makes a save; at the preset it
closes the dispense with PRESET (R62, R63, R70). A pulse in CLOSING is counted and restarts the quiet timer; one in
HELD is counted and is creep; one in any other state but FLOWING is creep alone (R62, R72, R76). Creep that reaches
the passing allowance in IDLE sets the passing mark and takes the point out of service with PASSING; its zone, NORMAL
and configured, becomes SUSPECT with VALVE_PASSING (R76, R77, R145, R148). -/
def Obligations.PulsesAreMeteredOrCreep : Prop :=
  (∀ (s : State) (i : Nat) (g : Grant), s.Ready → 1 ≤ i → i ≤ 12 → (s.point i).state = .flowing →
    (s.point i).grant = some g → s.SaveStopsNone i (s.point i).counted →
    let d := s.point i
    let e := d.pulsed
    (e.gross < d.savedGross + 100 → e.net < d.preset →
      Makes (.meterPulse i) s { s with points := s.points.set i e }) ∧
      (d.savedGross + 100 ≤ e.gross → e.net < d.preset → Makes (.meterPulse i) s (s.saved i g e id)) ∧
      (d.preset ≤ e.net → Makes (.meterPulse i) s (s.saved i g (e.closing .preset) (s.pumpLeft i)))) ∧
  (∀ (s : State) (i : Nat), s.Ready → 1 ≤ i → i ≤ 12 →
    let d := s.point i
    let creep := min (d.creep + 1) 4294967295
    let quiet := d.creepTold = true ∨ creep < d.settings.passingAllowance
    (d.state = .closing → d.counted.gross < d.savedGross + 100 →
      Makes (.meterPulse i) s
        { s with points := s.points.set i { d.counted with quietLeft := some d.settings.quietTime } }) ∧
      (d.state = .held → d.counted.gross < d.savedGross + 100 → quiet →
        Makes (.meterPulse i) s { s with points := s.points.set i { d.counted with creep := creep } }) ∧
      (d.state ≠ .flowing → d.state ≠ .held → d.state ≠ .closing → quiet →
        Makes (.meterPulse i) s { s with points := s.points.set i { d with creep := creep } })) ∧
  ∀ (s : State) (i : Nat), s.Ready → 1 ≤ i → i ≤ 12 → (s.point i).state = .idle → (s.point i).creepTold = false →
    (s.point i).settings.passingAllowance ≤ min ((s.point i).creep + 1) 4294967295 →
    1 ≤ (s.point i).settings.zone → (s.point i).settings.zone ≤ 6 →
    ∃ t, exec (.meterPulse i) s = .next t ∧ s.Steady t ∧
      t.point i =
        { s.point i with
          creep := min ((s.point i).creep + 1) 4294967295, creepTold := true, passing := true
          state := .outOfService, inService := false, reason := some .passing } ∧
      let z := (s.point i).settings.zone
      ((s.zone z).configured = true → s.zoneState z = .normal → (s.zone z).causes = [] →
        t.zone z =
          { s.zone z with
            state := .suspect, confirmLeft := some (s.zone z).confirmTime
            causes := [⟨.valvePassing, i, s.now, false⟩] }) ∧
      ((s.zone z).configured = false → t.zone z = s.zone z)

/-- A rate window of 1 s that ends gives the flow, starts the next, and counts the consecutive windows above 125 per
cent of the max flow; the second such window shuts a NORMAL or SUSPECT zone down with EXCESS_FLOW (R13, R65, R150). -/
def Obligations.RateWindowsWatchTheFlow : Prop :=
  ∀ (s : State) (i : Nat), s.Ready → 1 ≤ i → i ≤ 12 → (s.point i).rateLeft = some 0 →
    let d := s.point i
    let flow := min (d.ratePulses * 600000 / d.k100) 4294967295
    let exceeds := d.settings.maxFlow * 125 / 100 < flow
    let z := d.settings.zone
    (¬ exceeds →
      Makes (.rateWindowExpiry i) s
        { s with points := s.points.set i { d with flow := flow, rateLeft := some 1, ratePulses := 0, exceed := 0 } }) ∧
      (exceeds → d.exceed ≠ 1 →
        Makes (.rateWindowExpiry i) s
          { s with
            points := s.points.set i
              { d with flow := flow, rateLeft := some 1, ratePulses := 0, exceed := d.exceed + 1 } }) ∧
      (exceeds → d.exceed = 1 → 1 ≤ z → z ≤ 6 → (s.zone z).configured = true → s.zoneState z ≠ .shutdown →
        (s.zone z).causes.length < 16 →
        ∃ t, exec (.rateWindowExpiry i) s = .next t ∧ s.Steady t ∧ t.zoneState z = .shutdown ∧
          (∃ c ∈ (t.zone z).causes, c.kind = .excessFlow ∧ c.subject = i) ∧
          (t.point i).flow = flow ∧ (t.point i).exceed = 0 ∧
          (d.state = .flowing → (t.point i).state = .closing))

/-- The end of CLOSING completes the dispense: its record takes the grant's slot and the next ticket, the in-flight
entry and the grant are gone, and the point stands by its nozzle and its mark; the closing maximum sets the mark first
(R72, R73, R167). -/
def Obligations.ClosingCompletesTheDispense : Prop :=
  ∀ (s : State) (i : Nat) (g : Grant) (code : EndCode) (passed : Bool), s.Ready → 1 ≤ i → i ≤ 12 →
    (s.point i).state = .closing → (s.point i).grant = some g → (s.point i).endCode = some code →
    (if passed then (s.point i).maxLeft else (s.point i).quietLeft) = some 0 →
    let d := s.point i
    let marked := d.passing || passed
    let rec' : DispenseRec :=
      { point := i, tank := d.settings.tank, product := (s.tankOf i).settings.product, account := g.account
        origin := g.origin, preset := g.preset, limit := g.limit, service := g.service, bayUse := g.bayUse
        granted := g.granted, started := d.started, ended := s.now, endCode := code, k100 := d.k100
        pulses := d.pulses, gross := d.gross, net := d.net, temp := d.temp, flags := d.flags, factor := d.factor
        passing := marked }
    ∃ t, exec (if passed then .closingMaximumExpiry i else .closingQuietExpiry i) s = .next t ∧ s.Steady t ∧
      t.log.held = s.log.held ++ [⟨d.slot, ⟨s.log.ticket, s.now, !s.clock.set, false, .dispense rec'⟩⟩] ∧
      t.log.ticket = (if 4294967295 ≤ s.log.ticket then 1 else s.log.ticket + 1) ∧
      t.entry i = none ∧ (t.point i).grant = none ∧ (t.point i).passing = marked ∧
      (t.point i).lastEnd = some code ∧ (t.point i).lastNet = d.net ∧ (t.point i).lastTicket = s.log.ticket ∧
      (t.point i).state =
        (if s.env.nozzles.getD i false then .ended else if marked then .outOfService else .idle) ∧
      (∀ c ∈ (t.tank d.settings.tank).commitments, c.point ≠ i)

/-- POINT SERVICE takes an IDLE point out of service and brings one back, to ENDED or IDLE by its nozzle, its passing
mark and its creep cleared; POINT SET gives the settings and the flag in the same way (R48, R49). A flag clear on a
point whose passing mark is set gives reason PASSING with POINT_PASSING, the model's reading of R77:
notes/assumptions/29.md. -/
def Obligations.PointsAreConfigured : Prop :=
  ∀ (s : State) (p : PortId) (i : Nat), 1 ≤ i → i ≤ 12 →
    let d := s.point i
    let back (e : Point) : Point :=
      { e with
        state := if s.env.nozzles.getD i false then .ended else .idle
        inService := true, reason := none, passing := false, creep := 0, creepTold := false }
    let out (e : Point) : Point :=
      { e with state := .outOfService, inService := false, reason := some .configuredOut }
    (s.Takes p 0x25 →
      (d.state = .idle →
        Does (.pointService p i 0) p 0x25 s ⟨.ok, .empty⟩ { s with points := s.points.set i (out d) }) ∧
      (d.state = .outOfService → Answers (.pointService p i 0) p 0x25 s ⟨.ok, .empty⟩) ∧
      (d.state ≠ .idle → d.state ≠ .outOfService → Answers (.pointService p i 0) p 0x25 s ⟨.busy, .empty⟩) ∧
      (d.state = .outOfService → d.reason ≠ some .unconfigured → d.reason ≠ some .damaged →
        Does (.pointService p i 1) p 0x25 s ⟨.ok, .empty⟩ { s with points := s.points.set i (back d) }) ∧
      (d.state ≠ .outOfService → Answers (.pointService p i 1) p 0x25 s ⟨.ok, .empty⟩)) ∧
      ∀ (c : PointSettings) (flag : Bool), s.Takes p 0x60 → d.state = .idle ∨ d.state = .outOfService →
        pointSettingsOk c = true →
        (flag = true →
          (s.tank c.tank).status ≠ .out .unconfigured ∧ (s.tank c.tank).status ≠ .out .damaged ∧
            (s.zone c.zone).configured = true) →
        (flag = true ∨ d.passing = false →
          Does (.pointSet p i c flag) p 0x60 s ⟨.ok, .empty⟩
            { s with
              points := s.points.set i
                (if flag = false then out { d with settings := c }
                  else if d.state = .outOfService then back { d with settings := c }
                  else { d with settings := c, inService := true }) }) ∧
        (flag = false → d.passing = true →
          Does (.pointSet p i c flag) p 0x60 s ⟨.ok, .empty⟩
            (raise .pointPassing .point i d.creep c.passingAllowance
              { s with
                points := s.points.set i
                  { d with settings := c, state := .outOfService, inService := false, reason := some .passing } }))

/-! ## Accounts (05) -/

/-- ACCOUNT SET creates a VACANT account with its meter as life hours, or gives an existing one its new configuration,
keeping its figures but for a replaced meter (R103, R104). VACATE removes an account that no grant and no visit
engages and that carries no fuel, or a DAMAGED one unchecked; its tag leaves the lookup (R102, R120). -/
def Obligations.AccountsAreSetAndVacated : Prop :=
  (∀ (s : State) (p : PortId) (a : Nat) (x : AccountArgs) (cls : AccountClass) (source : HourSource),
    s.Takes p 0x28 → a ≤ 511 → accountClassOfCode x.cls = some cls → hourSourceOfCode x.hourSource = some source →
    accountArgsOk (s.account? a) x = true →
    (∀ e ∈ s.accounts, e.1 ≠ a → e.2.state ≠ .damaged → e.2.tag ≠ x.tag) →
    (s.account? a = none →
      Does (.accountSet p a x) p 0x28 s ⟨.ok, .empty⟩
        (s.setAccount a
          { state := .active, tag := x.tag, cls := cls, capacity := x.capacity, hourSource := source
            hoursRequired := x.hoursRequired, rollover := x.rollover, meter := x.meter, life := x.meter
            lastTime := none, pending := 0, fuelTotal := 0, lube := {}, band := x.band, lastRate := none
            limp := x.limp, grace := 0, entries := [], carried := if cls = .service then some 0 else none })) ∧
      ∀ c, s.account? a = some c → c.state ≠ .damaged → (c.tag = x.tag ∧ c.cls = cls ∨ s.engaged a = false) →
        (c.cls = cls ∨ c.cls ≠ .service ∧ cls ≠ .service) →
        Does (.accountSet p a x) p 0x28 s ⟨.ok, .empty⟩
          (s.setAccount a
            { c with
              tag := x.tag, cls := cls, capacity := x.capacity, hourSource := source
              hoursRequired := x.hoursRequired, rollover := x.rollover, band := x.band, limp := x.limp
              meter := if x.replaced then x.meter else c.meter
              lastTime := if x.replaced then none else c.lastTime })) ∧
  ∀ (s : State) (p : PortId) (a : Nat) (c : Account), s.Takes p 0x2B → a ≤ 511 → s.account? a = some c →
    let u : State := { s with accounts := s.accounts.filter fun e => e.1 != a }
    (c.state = .damaged ∨ s.engaged a = false ∧ (c.cls = .service → c.carried.getD 0 = 0) →
      Does (.vacate p a) p 0x2B s ⟨.ok, .empty⟩ u ∧ u.account? a = none ∧
        ∀ tag b d, u.findTag? tag = some (b, d) → b ≠ a) ∧
      (c.state ≠ .damaged → s.engaged a = true → Answers (.vacate p a) p 0x2B s ⟨.busy, .empty⟩) ∧
      (c.state ≠ .damaged → s.engaged a = false → c.cls = .service → 0 < c.carried.getD 0 →
        Answers (.vacate p a) p 0x2B s ⟨.state, .empty⟩)

/-- ACCOUNT BAR: an ACTIVE account becomes BARRED, its grants in AUTHORIZED are dropped, its visit ends, or goes to
ENDING while a dispense of it is active (R58, R98, R118). -/
def Obligations.BarReachesGrantsAndVisit : Prop :=
  ∀ (s : State) (p : PortId) (a : Nat) (c : Account), s.Takes p 0x29 → a ≤ 511 → s.account? a = some c →
    (c.state = .active →
      ∃ t, exec (.accountBar p a) s = .next t ∧ s.Steady t ∧ Told t p 0x29 ⟨.ok, .empty⟩ ∧
        (∃ d, t.account? a = some d ∧ d.state = .barred ∧ d.meter = c.meter ∧ d.fuelTotal = c.fuelTotal) ∧
        (∀ b, b ≠ a → t.account? b = s.account? b) ∧
        (∀ i g, 1 ≤ i → i ≤ 12 → (s.point i).state = .authorized → (s.point i).grant = some g →
          g.account = some a → (t.point i).state = .idle ∧ (t.point i).grant = none) ∧
        (∀ i, (s.point i).state ≠ .authorized → t.point i = s.point i) ∧
        (∀ j v, 1 ≤ j → j ≤ 4 → (s.island j).visit = some v → v.account = a →
          (v.busy = false → (t.island j).visit = none) ∧
            (v.busy = true →
              (t.island j).visit = some { v with phase := .ending, idle := none, endReason := some .barred })) ∧
        t.tanks.map (fun k => k.toTankKept) = s.tanks.map (fun k => k.toTankKept) ∧ t.stations = s.stations ∧
        t.zones = s.zones ∧ t.bay = s.bay ∧ t.log.held = s.log.held) ∧
      (c.state = .barred → Answers (.accountBar p a) p 0x29 s ⟨.ok, .empty⟩) ∧
      (c.state = .damaged → Answers (.accountBar p a) p 0x29 s ⟨.state, .empty⟩)

/-- ACCOUNT UNBAR, from a port holding DISPATCH: a BARRED account becomes ACTIVE and nothing else changes; an ACTIVE
one stays; a VACANT number or one above 511 is UNKNOWN; a DAMAGED one is STATE (R119). -/
def Obligations.UnbarReturnsTheAccount : Prop :=
  ∀ (s : State) (p : PortId) (a : Nat), s.Ready → s.Quiet p →
    ((s.rolesOf p).dispatch = false → Answers (.accountUnbar p a) p 0x2A s ⟨.role, .empty⟩) ∧
      ((s.rolesOf p).dispatch = true →
        (s.account? a = none ∨ 511 < a → Answers (.accountUnbar p a) p 0x2A s ⟨.unknown, .empty⟩) ∧
        ∀ c, a ≤ 511 → s.account? a = some c →
          (c.state = .barred →
            Does (.accountUnbar p a) p 0x2A s ⟨.ok, .empty⟩ (s.setAccount a { c with state := .active })) ∧
          (c.state = .active → Answers (.accountUnbar p a) p 0x2A s ⟨.ok, .empty⟩) ∧
          (c.state = .damaged → Answers (.accountUnbar p a) p 0x2A s ⟨.state, .empty⟩))

/-- An evaluation gives each service entry the state its hours since service call for, and raises SERVICE_DUE or
SERVICE_OVERDUE for an entry whose state rises (R110). SET SERVICE replaces the entries and the grace and evaluates
them; SERVICE DONE brings one entry's last service to the life hours and writes a SERVICE record with what stood
before (R110, R112, R113). -/
def Obligations.ServicesAreSetAndDone : Prop :=
  (∀ (s : State) (n : Nat) (a : Account), s.account? n = some a →
    let judged (e : ServiceEntry) : ServiceState :=
      if a.life - e.last < e.interval then .ok
      else if a.life - e.last < e.interval + a.grace then .due else .overdue
    let b : Account := { a with entries := a.entries.map fun e => { e with state := judged e } }
    let t := evaluateServices n s
    { t with ports := s.ports } = s.setAccount n b ∧ t.account? n = some b ∧
      (∀ m, m ≠ n → t.account? m = s.account? m) ∧
      ((∀ e ∈ a.entries, serviceStateCode (judged e) ≤ serviceStateCode e.state) → t.ports = s.ports) ∧
      ∀ e, a.entries = [e] →
        (e.state = .ok → judged e = .due →
          t = raise .serviceDue .account n (classCode e.cls) (a.life - e.last : Nat) (s.setAccount n b)) ∧
        (e.state ≠ .overdue → judged e = .overdue →
          t = raise .serviceOverdue .account n (classCode e.cls) (a.life - e.last : Nat) (s.setAccount n b))) ∧
  ∀ (s : State) (p : PortId) (a : Nat) (c : Account), a ≤ 511 → s.account? a = some c → c.state ≠ .damaged →
    (∀ (grace : Nat) (l : List ServiceArgs), s.Takes p 0x30 → l.length ≤ 6 → grace ≤ 100000 →
      (∀ e ∈ l, (classOfCode e.cls).isSome = true ∧ 10 ≤ e.interval ∧ e.interval ≤ 1000000 ∧
        ∀ n, e.since = some n → n ≤ c.life) →
      (l.map fun e => e.cls).Nodup →
      ∃ t d, exec (.setService p a grace l) s = .next t ∧ t.account? a = some d ∧
        Told t p 0x30 ⟨.ok, .serviceStates (d.entries.map fun e => e.state)⟩ ∧
        d = { c with grace := grace, entries := d.entries } ∧ d.entries.length = l.length ∧
        (∀ (k : Nat) (e : ServiceArgs) (f : ServiceEntry), l[k]? = some e → d.entries[k]? = some f →
          classOfCode e.cls = some f.cls ∧ f.interval = e.interval ∧ (∀ n, e.since = some n → f.last = c.life - n) ∧
            f.state = serviceStateFor c.life grace f) ∧
        ({ t with accounts := s.accounts, ports := s.ports } : State).apart = s.apart) ∧
      ∀ (code : Nat) (k : ProductClass) (e : ServiceEntry), s.Takes p 0x31 → classOfCode code = some k →
        c.entries.find? (fun o => o.cls == k) = some e → s.memoryFault = false → 0 < s.log.free →
        ∃ t, exec (.serviceDone p a code) s = .next t ∧ Told t p 0x31 ⟨.ok, .ticket s.log.ticket⟩ ∧
          t.account? a = some
            { c with
              entries := c.entries.map fun o =>
                let o : ServiceEntry := if o.cls = k then { o with last := c.life } else o
                { o with state := serviceStateFor c.life c.grace o } } ∧
          t.log.held = s.log.held ++
            [⟨s.log.lowest, ⟨s.log.ticket, s.now, !s.clock.set, false, .service
              { account := a, cls := k, life := c.life, since := c.life - e.last, before := e.state, port := p }⟩⟩] ∧
          ({ t with accounts := s.accounts, ports := s.ports, log := s.log } : State).apart = s.apart

/-- ENTER HOURS: an accepted reading moves meter and life hours, evaluates the services and clears pending fuel and
the last burn rate; a refused one raises HOURS_REFUSED and changes nothing else (R105, R106, R107, R110). -/
def Obligations.EnteredHoursAreJudged : Prop :=
  ∀ (s : State) (p : PortId) (a h : Nat) (c : Account), s.Takes p 0x2C → a ≤ 511 → s.account? a = some c →
    c.state ≠ .damaged → s.visitOf a = none →
    (∀ d, judgeReading s.clock c.meter c.rollover c.lastTime h = .accepted d →
      let life := min (c.life + d) 4294967295
      ∃ t, exec (.enterHours p a h) s = .next t ∧ Told t p 0x2C ⟨.ok, .hours (.accepted d)⟩ ∧
        t.account? a = some
          { c with
            meter := h, life := life, lastTime := if s.clock.set then some s.now else none, pending := 0
            lastRate := none
            entries := c.entries.map fun e => { e with state := serviceStateFor life c.grace e } } ∧
        (∀ b, b ≠ a → t.account? b = s.account? b) ∧
        ({ t with accounts := s.accounts, ports := s.ports } : State).apart = s.apart) ∧
      ∀ r, judgeReading s.clock c.meter c.rollover c.lastTime h = .refused r →
        Does (.enterHours p a h) p 0x2C s ⟨.ok, .hours (.refused r)⟩
          (raise .hoursRefused .account a (refusalCode r) h s)

/-- FIELD TRANSFER moves a quantity from a service account's carried balance to a machine account's fuel total and
pending fuel and writes a TRANSFER record into the lowest free slot with the next ticket; an accepted reading with
hours between closes the burn interval (R16, R109, R116, R117, R167). -/
def Obligations.TransfersMoveFuel : Prop :=
  ∀ (s : State) (p : PortId) (sv x q : Nat) (h : Option Nat) (a b : Account), s.Takes p 0x2D → sv ≤ 511 → x ≤ 511 →
    sv ≠ x → s.account? sv = some a → s.account? x = some b → a.state ≠ .damaged → a.cls = .service →
    b.state ≠ .damaged → (h.isSome = true → s.visitOf x = none) → 0 < q → q ≤ a.carried.getD 0 →
    s.memoryFault = false → 0 < s.log.free →
    let total := min (b.fuelTotal + q) 4294967295
    let pending := min (b.pending + q) 4294967295
    let left := a.carried.getD 0 - q
    let slot := s.log.lowest
    let record (o : Option (Nat × HourOutcome)) (rate : Option Nat) : Record :=
      ⟨s.log.ticket, s.now, !s.clock.set, false, .transfer
        { service := sv, machine := x, quantity := q, carriedAfter := left, port := p, reading := o, rate := rate }⟩
    (h = none →
      Does (.fieldTransfer p sv x q none) p 0x2D s ⟨.ok, .transfer s.log.ticket left none⟩
        (judgeSpace
          (({ s with
              log :=
                { s.log with
                  held := s.log.held ++ [⟨slot, record none none⟩], reserved := s.log.reserved.erase slot
                  ticket := if 4294967295 ≤ s.log.ticket then 1 else s.log.ticket + 1 } } : State).setAccount sv
              { a with carried := some left }
            |>.setAccount x { b with fuelTotal := total, pending := pending }))) ∧
      ∀ reading d, h = some reading → judgeReading s.clock b.meter b.rollover b.lastTime reading = .accepted d →
        0 < d → b.cls ≠ .service →
        ∃ t e, exec (.fieldTransfer p sv x q h) s = .next t ∧ s.Steady t ∧
          Told t p 0x2D ⟨.ok, .transfer s.log.ticket left (some (.accepted d))⟩ ∧
          t.account? sv = some { a with carried := some left } ∧ t.account? x = some e ∧ e.fuelTotal = total ∧
          e.pending = 0 ∧ e.lastRate = some (pending / d) ∧ e.meter = reading ∧
          e.life = min (b.life + d) 4294967295 ∧
          t.log.held = s.log.held ++ [⟨slot, record (some (reading, .accepted d)) (some (pending / d))⟩] ∧
          t.points = s.points ∧ t.tanks = s.tanks

/-! ## Products, tanks and pumps (02) -/

/-- PRODUCT SET gives a product its class and expansion, the class only while no tank of it is held by a grant, a
delivery or an open window; STAGE STRAP writes rows into the staging table (R19, R43). APPLY STRAP makes the first
rows of the staging table the live table when they rise within 0 to 30,000 mm; else it names the first row that fails,
0 for a count outside 2 to 32 (R44). -/
def Obligations.ProductsAndStrapTablesAreSet : Prop :=
  (∀ (s : State) (p : PortId),
    (∀ (n code alpha : Nat) (c : ProductClass), s.Takes p 0x40 → 1 ≤ n → n ≤ 8 → classOfCode code = some c →
      alpha ≤ 2000 →
      ((s.product n).cls = c ∨ ∀ t, 1 ≤ t → t ≤ 8 → (s.tank t).settings.product = n → s.classHeld t = false) →
      Does (.productSet p n code alpha) p 0x40 s ⟨.ok, .empty⟩
        { s with products := s.products.set n ⟨true, c, alpha⟩ }) ∧
      ∀ (t i n : Nat) (rows : List StrapRow), s.Takes p 0x42 → 1 ≤ t → t ≤ 8 → 1 ≤ i → 1 ≤ n → n ≤ 8 →
        i + n ≤ 33 → rows.length = n →
        ∃ b : Bank StrapRow 32,
          (∀ j, 1 ≤ j → j ≤ 32 →
            b.get? j = if i ≤ j ∧ j < i + n then rows[j - i]? else (s.tank t).staging.get? j) ∧
          Does (.stageStrap p t i n rows) p 0x42 s ⟨.ok, .empty⟩
            { s with tanks := s.tanks.set t { s.tank t with staging := b } }) ∧
  ∀ (s : State) (p : PortId) (t n : Nat), s.Takes p 0x43 → 1 ≤ t → t ≤ 8 → s.tankBusy t = false →
    let rows := (s.tank t).staging.items.take n
    (2 ≤ n → n ≤ 32 → rows.Pairwise (fun a b => a.level < b.level ∧ a.vol ≤ b.vol) → (∀ r ∈ rows, r.level ≤ 30000) →
      Does (.applyStrap p t n) p 0x43 s ⟨.ok, .rowCount n⟩
        { s with tanks := s.tanks.set t { s.tank t with live := rows } }) ∧
      (n < 2 ∨ 32 < n → Answers (.applyStrap p t n) p 0x43 s ⟨.range, .rowIndex 0⟩) ∧
      (∀ (front back : List StrapRow) (q r : StrapRow), 2 ≤ n → n ≤ 32 → rows = front ++ q :: r :: back →
        (front ++ [q]).Pairwise (fun a b => a.level < b.level ∧ a.vol ≤ b.vol) →
        (∀ x ∈ front ++ [q], x.level ≤ 30000) → (30000 < r.level ∨ r.level ≤ q.level ∨ r.vol < q.vol) →
        Answers (.applyStrap p t n) p 0x43 s ⟨.range, .rowIndex (front.length + 2)⟩)

/-- TANK SET gives the settings and the flag: a tank that comes into service opens its book at the given figure, one
that goes out stops its pump, a new probe address starts the gauge afresh (R45, R46). A pump whose tank comes into a
zone that is not NORMAL stops, but in FAULT, which is the model's choice: notes/assumptions/39.md; so is the factor
that a gauge started afresh has before its first sample: 38.md. -/
def Obligations.TanksAreConfigured : Prop :=
  ∀ (s : State) (p : PortId) (t : Nat) (c : TankSettings) (flag : Bool) (opening : Nat), s.Takes p 0x41 → 1 ≤ t →
    t ≤ 8 → ((s.tank t).status = .inService → s.tankBusy t = false) → tankSettingsOk c = true →
    opening ≤ c.capacity →
    (∀ y, 1 ≤ y → y ≤ 8 → y ≠ t → (s.tank y).configured = true → (s.tank y).settings.probe ≠ c.probe) →
    (∀ n, 1 ≤ n → n ≤ 2 → (s.station n).configured = true → (s.station n).probe ≠ c.probe) →
    (flag = true →
      (s.product c.product).configured = true ∧ (s.zone c.zone).configured = true ∧ (s.tank t).live ≠ []) →
    let k := s.tank t
    let was := k.status = .inService
    let enters := flag = true ∧ ¬ was
    let clears := flag = false ∧ ¬ was ∧ k.status ≠ .out .configuredOut
    let same := k.configured = true ∧ k.settings.probe = c.probe
    Does (.tankSet p t c flag opening) p 0x41 s ⟨.ok, .empty⟩
      { s with
        tanks := s.tanks.set t
          { k with
            settings := c
            status := if flag then .inService else .out .configuredOut
            book := if enters then (opening : Int) else if clears then 0 else k.book
            opening := if enters then (opening : Int) else if clears then 0 else k.opening
            receipts := if enters ∨ clears then 0 else k.receipts
            dispensed := if enters ∨ clears then 0 else k.dispensed
            trend := if enters then [] else k.trend
            pump :=
              if was ∧ flag = false then ⟨.off, none, none⟩
              else if s.zoneState c.zone ≠ .normal ∧ k.pump.state ≠ .fault then ⟨.off, none, none⟩ else k.pump
            gauge := if same then k.gauge else .unknown
            lastSample := if same then k.lastSample else none
            temp := if same then k.temp else ⟨none, false⟩
            factor := if same then k.factor else 10000000
            gross := if same then k.gross else 0
            net := if same then k.net else 0
            above := if same then k.above else false
            silence := if same then k.silence else some c.gaugeSilence } }

/-- The pump of a tank: its confirm seen in STARTING makes it RUNNING and lets every waiting point flow; its confirm
lost, or its start timeout, makes it FAULT and closes the points it fed; run-on ends OFF; RESET PUMP clears a FAULT
and starts it again for a run request (R33, R34, R35, R36). -/
def Obligations.PumpsFollowTheirConfirm : Prop :=
  ∀ (s : State) (t : Nat), s.Ready → 1 ≤ t → t ≤ 8 →
    let k := s.tank t
    let withPump (u : Pump) : State := { s with tanks := s.tanks.set t { k with pump := u } }
    let pin (on : Bool) (u : State) : State := { u with env := { u.env with confirms := u.env.confirms.set t on } }
    (k.pump.state ≠ .starting → Makes (.pumpConfirmOn t) s (pin true s)) ∧
      (k.pump.state = .starting → k.gauge = .fresh → k.settings.lowCutoff < k.net → k.status = .inService →
        s.zoneState k.settings.zone = .normal → s.bay.stopped = false →
        (∀ i ∈ s.fed t, (s.point i).state = .starting → (s.point i).net < (s.point i).preset) →
        ∃ u, exec (.pumpConfirmOn t) s = .next u ∧ (pin true s).Steady u ∧
          (u.tank t).pump = ⟨.running, none, none⟩ ∧
          (∀ i ∈ s.fed t, (s.point i).state = .starting →
            (u.point i).state = .flowing ∧ (u.point i).noFlowLeft = some (s.point i).settings.noFlow) ∧
          ∀ i, i ∉ s.fed t ∨ (s.point i).state ≠ .starting → u.point i = s.point i) ∧
      (k.pump.state ≠ .running → k.pump.state ≠ .runOn → Makes (.pumpConfirmLost t) s (pin false s)) ∧
      (k.pump.state = .running ∨ k.pump.state = .runOn →
        ∃ u, exec (.pumpConfirmLost t) s = .next u ∧ (pin false s).Steady u ∧
          (u.tank t).pump = ⟨.fault, none, none⟩ ∧
          ∀ i ∈ s.fed t, ((s.point i).state = .starting ∨ (s.point i).state = .flowing ∨ (s.point i).state = .held) →
            (u.point i).state = .closing) ∧
      (k.pump.state = .starting → k.pump.startLeft = some 0 →
        ∃ u, exec (.pumpStartTimeout t) s = .next u ∧ s.Steady u ∧ (u.tank t).pump = ⟨.fault, none, none⟩ ∧
          ∀ i ∈ s.fed t, (s.point i).state = .starting → (u.point i).state = .closing) ∧
      (k.pump.state = .runOn → k.pump.runOnLeft = some 0 →
        Makes (.pumpRunOnExpiry t) s (withPump ⟨.off, none, none⟩)) ∧
      ∀ p : PortId, s.Takes p 0x2E →
        (k.pump.state = .fault → s.runRequest t = false →
          Does (.resetPump p t) p 0x2E s ⟨.ok, .empty⟩ (withPump ⟨.off, none, none⟩)) ∧
        (k.pump.state = .fault → s.runRequest t = true → s.env.confirms.getD t false = false →
          Does (.resetPump p t) p 0x2E s ⟨.ok, .empty⟩ (withPump ⟨.starting, some k.settings.pumpStart, none⟩)) ∧
        (k.pump.state ≠ .fault → Answers (.resetPump p t) p 0x2E s ⟨.state, .empty⟩)

/-- A gauge sample: an OK one sets temperature, factor, gross, net and FRESH and restarts the silence timer; a FAULT
one, or the silence timer run out, makes a FRESH or UNKNOWN gauge STALE with GAUGE_STALE, and a FAULT one at a STALE
gauge is only shown; a window whose settle timer ends is closed; a request without an answer only moves the probe line
on (R6, R12, R21, R22, R23, R24, R41). That the sample is taken whatever address was asked, and which request follows
it, is the model's convention: notes/assumptions/11.md; so is who takes it where two hold one address: 50.md. A sample
checked against an open window counts the samples whose loss exceeds the allowance in a row, and the third raises
UNMETERED_LOSS to the tank's zone and closes the window (R17, R40). -/
def Obligations.GaugesFollowTheirSamples : Prop :=
  (∀ (s : State) (t : Nat), s.Ready → 1 ≤ t → t ≤ 8 →
    let k := s.tank t
    let alpha := (s.product k.settings.product).alpha
    (∀ (level water : Nat) (temp : Int), s.probeTank k.settings.probe = some t → level ≤ 30000 → water ≤ 30000 →
      k.live ≠ [] → k.gauge ≠ .stale → k.window.isOpen = false →
      (k.gauge = .unknown → s.productMoves t = false) → s.stationFor t = none →
      let gross := min (volumeAt k.live level - volumeAt k.live water) 4294967295
      let source := sourceAfter temp
      let factor := factorOf alpha (workingTemp source)
      let net := netOf gross factor
      k.settings.lowCutoff < net →
      Makes (.probeSample k.settings.probe level water temp true) s
        { s with
          probeLast := s.probeAsked
          tanks := s.tanks.set t
            { k with
              temp := source, factor := factor, above := aboveTable k.live level, gross := gross, net := net
              lastSample := some ⟨level, water, temp, true⟩, gauge := .fresh
              silence := some k.settings.gaugeSilence } }) ∧
      (∀ (level water : Nat) (temp : Int), s.probeTank k.settings.probe = some t →
        ∃ u, exec (.probeSample k.settings.probe level water temp true) s = .next u ∧
          ({ s with probeLast := s.probeAsked } : State).Steady u ∧
          (level ≤ 30000 → water ≤ 30000 → (u.tank t).gauge = .fresh ∧ (u.tank t).temp = sourceAfter temp ∧
            (u.tank t).factor = factorOf alpha (clampTemp temp) ∧
            (u.tank t).lastSample = some ⟨level, water, temp, true⟩) ∧
          (30000 < level ∨ 30000 < water → (u.tank t).gauge = .stale ∧ (u.tank t).temp = k.temp ∧
            (u.tank t).factor = k.factor)) ∧
      (∀ (level water : Nat) (temp : Int), s.probeTank k.settings.probe = some t → k.gauge = .stale →
        Makes (.probeSample k.settings.probe level water temp false) s
          { s with
            probeLast := s.probeAsked
            tanks := s.tanks.set t { k with lastSample := some ⟨level, water, temp, false⟩ } }) ∧
      (∀ (level water : Nat) (temp : Int), s.probeTank k.settings.probe = some t → k.gauge ≠ .stale →
        (k.window.isOpen = false → (k.settings.lowCutoff : Int) < k.book →
          Makes (.probeSample k.settings.probe level water temp false) s
            (raise .gaugeStale .tank t 1 k.net
              { s with
                probeLast := s.probeAsked
                tanks := s.tanks.set t
                  { k with lastSample := some ⟨level, water, temp, false⟩, gauge := .stale } })) ∧
        ∃ u, exec (.probeSample k.settings.probe level water temp false) s = .next u ∧
          ({ s with probeLast := s.probeAsked } : State).Steady u ∧ (u.tank t).gauge = .stale ∧
          (u.tank t).lastSample = some ⟨level, water, temp, false⟩ ∧ (u.tank t).window.isOpen = false ∧
          (u.tank t).silence = k.silence) ∧
      (k.silence = some 0 → k.gauge ≠ .stale → k.window.isOpen = false → (k.settings.lowCutoff : Int) < k.book →
        Makes (.gaugeSilenceExpiry t) s
          (raise .gaugeStale .tank t 2 k.net
            { s with
              tanks := s.tanks.set t { k with gauge := .stale, silence := some k.settings.gaugeSilence } })) ∧
      (k.silence = some 0 → k.gauge = .stale →
        Makes (.gaugeSilenceExpiry t) s
          { s with tanks := s.tanks.set t { k with silence := some k.settings.gaugeSilence } }) ∧
      (k.window.settle = some 0 →
        Makes (.windowSettleExpiry t) s
          { s with tanks := s.tanks.set t { k with window := ⟨false, 0, 0, 0, 0, none, 0⟩ } }) ∧
      Makes .probeReplyTimeout s { s with probeLast := s.probeAsked }) ∧
  ∀ (s : State) (t : Nat), 1 ≤ t → t ≤ 8 → (s.tank t).window.isOpen = true →
    let k := s.tank t
    let w := k.window
    let loss := (w.gaugeAtOpen : Int) + w.movedIn - w.movedOut - k.net
    let allowance : Int := k.settings.windowBase + ((w.movedIn + w.movedOut) * k.settings.windowPerMille / 1000 : Nat)
    let z := k.settings.zone
    let u := checkWindow t s
    (loss ≤ allowance →
      u = { s with tanks := s.tanks.set t { k with window := { w with count := 0, lastLoss := loss } } }) ∧
      (allowance < loss → w.count ≠ 2 →
        u = { s with tanks := s.tanks.set t { k with window := { w with count := w.count + 1, lastLoss := loss } } }) ∧
      (allowance < loss → w.count = 2 →
        (u.tank t).window = ⟨false, 0, 0, 0, 0, none, 0⟩ ∧
          (1 ≤ z → z ≤ 6 → (s.zone z).configured = true → (s.zone z).causes.length < 16 →
            u.zoneState z = .shutdown ∧ ∃ c ∈ (u.zone z).causes, c.kind = .unmeteredLoss ∧ c.subject = t))

/-! ## Receipts and stock close (06) -/

/-- OPEN DELIVERY that passes the checks of R125 reserves a slot, creates the delivery and enters FILLING: the settle
timer stops, the window opens if it was closed, and the in-flight entry is written (R38, R41, R126, R131, R195). -/
def Obligations.DeliveriesOpen : Prop :=
  ∀ (s : State) (p : PortId) (n t : Nat) (docket : Option Nat), s.Takes p 0x44 → 1 ≤ n → n ≤ 2 → 1 ≤ t → t ≤ 8 →
    (s.station n).configured = true → (s.station n).state = .idle → s.stationFor t = none →
    (s.tank t).status = .inService → (s.tank t).gauge = .fresh → s.zoneState (s.station n).zone = .normal →
    s.zoneState (s.tank t).settings.zone = .normal → s.bay.stopped = false → 0 < s.log.free →
    (s.tank t).gross < (s.tank t).settings.highLimit →
    let k := s.tank t
    let d := s.station n
    let ullage : Int := (k.settings.highLimit : Int) - k.gross
    ∃ u e, exec (.openDelivery p n t docket) s = .next u ∧ s.Steady u ∧ Told u p 0x44 ⟨.ok, .ullage ullage⟩ ∧
      (u.station n).delivery = some e ∧
      u.station n =
        { d with
          state := .filling
          delivery := some
            { e with
              tank := t, docket := docket, ullage := ullage, k100 := d.k100, pulses := 0, gross := 0, savedGross := 0
              recorded := 0, flags := d.flags, gaugeGross := k.gross, gaugeBefore := k.net
              dispensedAtOpen := k.dispensed, port := p, opened := s.now, ended := none, endCode := none, passing := false
              factor := factorOf (s.product k.settings.product).alpha (workingTemp d.temp)
              noFlowLeft := some d.noFlow, quietLeft := none, maxLeft := none, slot := s.log.lowest } } ∧
      u.log.reserved = s.log.reserved ++ [s.log.lowest] ∧
      u.entry (12 + n) = some (.delivery (deliveryImage n .filling e k.settings.product)) ∧
      (u.tank t).toTankKept = k.toTankKept ∧
      (u.tank t).window = (if k.window.isOpen then { k.window with settle := none } else ⟨true, k.net, 0, 0, 0, none, 0⟩) ∧
      u.points = s.points ∧ u.accounts = s.accounts ∧ u.zones = s.zones ∧ u.bay = s.bay ∧
      ∀ m, m ≠ t → u.tank m = s.tank m

/-- A pulse at a station is counted into its delivery, restarts the timer of its state, ends the filling with ULLAGE
at the ullage, and makes a save at 10,000 cL of gross progress; in IDLE it is ignored (R9, R30, R127, R129, R134). -/
def Obligations.StationPulsesAreMetered : Prop :=
  ∀ (s : State) (n : Nat), s.Ready → 1 ≤ n → n ≤ 2 →
    let k := s.station n
    (k.state = .idle → Makes (.stationMeterPulse n) s s) ∧
      ∀ d, k.delivery = some d →
        let pulses := min (d.pulses + 1) 4294967295
        let gross := grossOf pulses d.k100
        let c : Delivery := { d with pulses := pulses, gross := gross }
        (k.state = .filling → (gross : Int) < d.ullage → gross < d.savedGross + 10000 →
          Makes (.stationMeterPulse n) s
            { s with stations := s.stations.set n { k with delivery := some { c with noFlowLeft := some k.noFlow } } }) ∧
        (k.state = .settling → gross < d.savedGross + 10000 →
          Makes (.stationMeterPulse n) s
            { s with stations := s.stations.set n { k with delivery := some { c with quietLeft := some 5 } } }) ∧
        (k.state = .paused → (gross : Int) < d.ullage → gross < d.savedGross + 10000 →
          Makes (.stationMeterPulse n) s { s with stations := s.stations.set n { k with delivery := some c } }) ∧
        (k.state = .filling ∨ k.state = .paused → d.ullage ≤ gross →
          ∃ t, exec (.stationMeterPulse n) s = .next t ∧ s.Steady t ∧ (t.station n).state = .settling ∧
            ∃ e, (t.station n).delivery = some e ∧ e.endCode = some .ullage ∧ e.gross = gross ∧
              e.savedGross = gross ∧ e.quietLeft = some 5 ∧ e.maxLeft = some 60) ∧
        (k.state = .filling → (gross : Int) < d.ullage → d.savedGross + 10000 ≤ gross → 1 ≤ d.tank → d.tank ≤ 8 →
          let factor := factorOf (s.product (s.tank d.tank).settings.product).alpha (workingTemp k.temp)
          let inc := netOf (gross - d.savedGross) factor
          ∃ t, exec (.stationMeterPulse n) s = .next t ∧ s.Steady t ∧
            (t.tank d.tank).book = (s.tank d.tank).book + inc ∧
            (t.tank d.tank).receipts = (s.tank d.tank).receipts + inc ∧
            (t.tank d.tank).dispensed = (s.tank d.tank).dispensed ∧
            ∃ e, (t.station n).delivery = some e ∧ e.recorded = min (d.recorded + inc) 4294967295 ∧
              e.savedGross = gross ∧ e.factor = factor ∧ e.flags = unionFlags d.flags k.flags)

/-- A delivery ends into SETTLING by CLOSE DELIVERY, with CLOSED or ABORTED, and by its no-flow timer run out, with
EMPTY, a save made with the factor of the moment and the timers of SETTLING started (R6, R130, R133, R134). The end of
SETTLING completes the delivery: its RECEIPT record takes its slot and the next ticket, the in-flight entry is gone
and the station is IDLE; the settling maximum marks it passing first (R134, R135). -/
def Obligations.DeliveriesSettleAndComplete : Prop :=
  (∀ (s : State) (n : Nat) (d : Delivery), 1 ≤ n → n ≤ 2 → (s.station n).delivery = some d →
    let settled (t : State) (code : EndCode) : Prop :=
      (t.station n).state = .settling ∧
        ∃ e, (t.station n).delivery = some e ∧ e.endCode = some code ∧ e.gross = d.gross ∧ e.savedGross = d.gross ∧
          e.quietLeft = some 5 ∧ e.maxLeft = some 60 ∧ e.noFlowLeft = none ∧ e.settlingFrom = d.gross ∧
          e.factor = factorOf (s.product (s.tank d.tank).settings.product).alpha (workingTemp (s.station n).temp) ∧
          t.entry (12 + n) =
            some (.delivery (deliveryImage n .settling e (s.tank d.tank).settings.product)) ∧
          t.points = s.points ∧ t.log = s.log ∧ t.zones = s.zones ∧ t.accounts = s.accounts
    (∀ (p : PortId) (abort : Bool), s.Takes p 0x45 →
      ((s.station n).state = .filling ∨ (s.station n).state = .paused →
        ∃ t, exec (.closeDelivery p n abort) s = .next t ∧ s.Steady t ∧ Told t p 0x45 ⟨.ok, .empty⟩ ∧
          settled t (if abort then .aborted else .closed)) ∧
      ((s.station n).state = .idle ∨ (s.station n).state = .settling →
        Answers (.closeDelivery p n abort) p 0x45 s ⟨.state, .empty⟩)) ∧
      (s.Ready → (s.station n).state = .filling → d.noFlowLeft = some 0 →
        ∃ t, exec (.deliveryNoFlowExpiry n) s = .next t ∧ s.Steady t ∧ settled t .empty)) ∧
  ∀ (s : State) (n : Nat) (d : Delivery) (code : EndCode) (passed : Bool), s.Ready → 1 ≤ n → n ≤ 2 →
    (s.station n).state = .settling → (s.station n).delivery = some d → d.endCode = some code → 1 ≤ d.tank →
    d.tank ≤ 8 → (if passed then d.maxLeft else d.quietLeft) = some 0 →
    let k := s.tank d.tank
    let inc := netOf (d.gross - d.savedGross)
      (factorOf (s.product k.settings.product).alpha (workingTemp (s.station n).temp))
    let net := min (d.recorded + inc) 4294967295
    let after : Option Nat := if k.gauge = .fresh ∧ d.sampledSince = true then some k.net else none
    let rec' : ReceiptRec :=
      { station := n, tank := d.tank, product := k.settings.product, port := d.port, opened := d.opened
        ended := s.now, endCode := code, passing := d.passing || passed, k100 := d.k100, pulses := d.pulses
        gross := d.gross, net := net, flags := unionFlags d.flags (s.station n).flags, ullage := d.ullage
        docket := d.docket, gaugeBefore := d.gaugeBefore, gaugeAfter := after
        outflow := (k.dispensed : Int) - d.dispensedAtOpen
        docketVariance := d.docket.map fun q => (q : Int) - net
        gaugeRise := after.map fun g => (g : Int) - d.gaugeBefore }
    ∃ t, exec (if passed then .settlingMaximumExpiry n else .settlingQuietExpiry n) s = .next t ∧ s.Steady t ∧
      t.log.held = s.log.held ++ [⟨d.slot, ⟨s.log.ticket, s.now, !s.clock.set, false, .receipt rec'⟩⟩] ∧
      t.entry (12 + n) = none ∧ (t.station n).state = .idle ∧ (t.station n).delivery = none ∧
      (t.station n).lastTicket = s.log.ticket ∧ (t.station n).lastEnd = some code ∧ (t.station n).lastNet = net ∧
      (t.tank d.tank).book = k.book + inc ∧ (t.tank d.tank).receipts = k.receipts + inc

/-- CLOSE STOCK judges gauge against book, writes a CLOSE record with every field of R138 into a free slot, raises
VARIANCE and LOSS_TREND as they apply, which stand in that order in the queue of a port that holds STOCK and has room,
and re-bases the book on the gauge with the variance in the trend ring (R18, R31, R137, R138). -/
def Obligations.StockIsClosed : Prop :=
  ∀ (s : State) (p : PortId) (t : Nat), s.Takes p 0x46 → 1 ≤ t → t ≤ 8 → s.tankBusy t = false →
    (s.tank t).gauge = .fresh → s.memoryFault = false → 0 < s.log.free →
    let k := s.tank t
    let variance := (k.net : Int) - k.book
    let tolerance : Int :=
      k.settings.varianceBase + ((k.receipts + k.dispensed) * k.settings.variancePerMille / 1000 : Nat)
    let ring := if k.trend.length < 8 then k.trend ++ [variance] else k.trend.drop (k.trend.length - 7) ++ [variance]
    let sum := ring.sum
    let outside := tolerance < variance ∨ tolerance < -variance
    let loss := sum < -(k.settings.trendLimit : Int)
    let c : CloseRec :=
      { tank := t, product := k.settings.product, port := p, opening := k.opening, receipts := k.receipts
        dispensed := k.dispensed, book := k.book, gross := k.gross, net := k.net, temp := workingTemp k.temp
        flags := sourceFlags k.temp false, variance := variance, tolerance := tolerance, trendSum := sum
        ringCount := ring.length, outOfTolerance := decide outside, loss := decide loss }
    let slot := s.log.lowest
    let held := s.log.held ++ [⟨slot, ⟨s.log.ticket, s.now, !s.clock.set, false, .close c⟩⟩]
    let answer : Answer := ⟨.ok, .close s.log.ticket variance tolerance sum ring (decide outside) (decide loss)⟩
    let rebased : Tank := { k with trend := ring, book := k.net, opening := k.net, receipts := 0, dispensed := 0 }
    let told : List Notice :=
      (if outside then [⟨.variance, s.now, .tank, t, variance, tolerance⟩] else []) ++
        if loss then [⟨.lossTrend, s.now, .tank, t, sum, k.settings.trendLimit⟩] else []
    let judged : State :=
      judgeSpace
        { s with
          log :=
            { s.log with
              held := held, reserved := s.log.reserved.erase slot
              ticket := if 4294967295 ≤ s.log.ticket then 1 else s.log.ticket + 1 } }
    let varied : State := if outside then raise .variance .tank t variance tolerance judged else judged
    let trended : State := if loss then raise .lossTrend .tank t sum k.settings.trendLimit varied else varied
    Does (.closeStock p t) p 0x46 s answer { trended with tanks := trended.tanks.set t rebased } ∧
      ∃ u : State, exec (.closeStock p t) s = .next u ∧ s.Steady u ∧ Told u p 0x46 answer ∧ u.log.held = held ∧
        u.tank t = rebased ∧ (∀ m, m ≠ t → u.tank m = s.tank m) ∧ u.points = s.points ∧
        u.accounts = s.accounts ∧ u.stations = s.stations ∧ u.zones = s.zones ∧ u.bay = s.bay ∧
        ∀ q : PortId, s.log.armed = false → (s.port q).queue.length + 1 < s.queueLength q →
          (s.rolesOf q).stock = true → (u.port q).queue = (s.port q).queue ++ told

/-- A station's probe: a FAULT sample or the silence timer marks its latest report FAULT, with STATION_PROBE_FAULT
when it was OK; an OK sample takes its temperature; STATION SET gives the settings, a new probe address starting
afresh (R123, R124). That a sample is taken whatever address was asked, and which request follows it, is the model's
convention: notes/assumptions/11.md; so is who takes it where two hold one address: 50.md. -/
def Obligations.StationProbesAndSettings : Prop :=
  ∀ (s : State) (n : Nat), 1 ≤ n → n ≤ 2 →
    let k := s.station n
    let put (e : Station) : State := { s with stations := s.stations.set n e }
    (s.Ready → k.silence = some 0 →
      (k.reportOk = true →
        Makes (.stationSilenceExpiry n) s
          (raise .stationProbeFault .station n 2 (workingTemp k.temp)
            (put { k with reportOk := false, silence := some 30 }))) ∧
      (k.reportOk = false → Makes (.stationSilenceExpiry n) s (put { k with silence := some 30 }))) ∧
      (∀ (a level water : Nat) (temp : Int), s.Ready → s.probeTank a = none → s.probeStation a = some n →
        Makes (.probeSample a level water temp true) s
          { put { k with temp := sourceAfter temp, reportOk := true, silence := some 30 } with
            probeLast := s.probeAsked } ∧
          (k.reportOk = true →
            Makes (.probeSample a level water temp false) s
              (raise .stationProbeFault .station n 1 (workingTemp k.temp)
                { put { k with reportOk := false } with probeLast := s.probeAsked })) ∧
          (k.reportOk = false →
            Makes (.probeSample a level water temp false) s { s with probeLast := s.probeAsked })) ∧
      ∀ (p : PortId) (c : StationKept), s.Takes p 0x63 → k.state = .idle → stationSettingsOk c = true →
        stationProbeHeld s n c.probe = false → (c.configured = true → (s.zone c.zone).configured = true) →
        let same := k.configured = true ∧ k.probe = c.probe
        Does (.stationSet p n c) p 0x63 s ⟨.ok, .empty⟩
          (put
            { k with
              toStationKept := c
              silence := if c.configured = false then none else if same then k.silence else some 30
              temp := if c.configured = false ∨ same then k.temp else ⟨none, false⟩
              reportOk := if c.configured = false ∨ same then k.reportOk else false })

/-! ## Zones, the bay and bypasses (07) -/

/-- ZONE SET: an unconfigured zone that is configured stands in SHUTDOWN with START_UP, unscanned; a configured one
takes the new confirm time; one that no configured object names is unconfigured and its bypass removed (R141). That
its scanned flag, sump reading and emergency input are cleared with it is the model's choice: notes/assumptions/44.md.
-/
def Obligations.ZonesAreConfigured : Prop :=
  ∀ (s : State) (p : PortId) (z confirm : Nat), s.Takes p 0x62 → 1 ≤ z → z ≤ 6 → 1 ≤ confirm → confirm ≤ 120 →
    let d := s.zone z
    let put (e : Zone) : State := { s with zones := s.zones.set z e }
    (d.configured = false → s.env.zoneStops.getD z false = false →
      Does (.zoneSet p z true confirm) p 0x62 s ⟨.ok, .empty⟩
        (put ⟨⟨true, confirm⟩, .shutdown, [⟨.startUp, z, s.now, false⟩], false, none, false, none, false⟩)) ∧
      (d.configured = true →
        Does (.zoneSet p z true confirm) p 0x62 s ⟨.ok, .empty⟩ (put { d with confirmTime := confirm })) ∧
      (zoneNamed s z = false →
        Does (.zoneSet p z false confirm) p 0x62 s ⟨.ok, .empty⟩
          { put ⟨⟨false, confirm⟩, .shutdown, [], false, none, false, none, false⟩ with
            bypasses := s.bypasses.filter fun e => e.input != .sump z }) ∧
      (zoneNamed s z = true → Answers (.zoneSet p z false confirm) p 0x62 s ⟨.busy, .empty⟩)

/-- STOP ZONE shuts a configured zone down with MASTER_STOP from the sending port: its active dispenses close, its
pumps stop and its deliveries, by their station's zone or their tank's, settle; a zone that so becomes live while
another is in live shutdown stops the bay with SECOND_ZONE, and the bay is else left alone; an unconfigured zone is
STATE, another number UNKNOWN (R75, R132, R150, R153, R156). RELEASE ZONE makes a zone in SHUTDOWN, scanned and
without an active condition (a WET or faulted sump line, the emergency input, a WET or faulted overfill line of a tank
that names the zone, each unless bypassed), NORMAL with an empty cause list, and tells its points, whose SPILL leaves
when both their zones are NORMAL; else it is BUSY with its first ACTIVE entry, or STATE (R69, R146, R158). R149 and
R158 give ZONE_NORMAL no second detail, and an unlisted condition no subject beside code 0; the 0 of each is the
model's choice: notes/assumptions/40.md and 45.md. The confirm timer of a SUSPECT zone makes it NORMAL when no SUSPECT
condition is active (a WET or faulted sump line, a faulted overfill line of a tank that names the zone, each unless
bypassed), else it shuts the zone down (R146, R149). -/
def Obligations.ZonesStopAndAreReleased : Prop :=
  (∀ (s : State) (p : PortId) (z : Nat), s.Takes p 0x50 →
    let live (y : Nat) : Prop :=
      s.zoneState y = .shutdown ∧ ((s.zone y).more = true ∨ ∃ c ∈ (s.zone y).causes, c.kind ≠ .startUp)
    let escalates := ¬ live z ∧ ∃ y, (1 ≤ y ∧ y ≤ 6) ∧ y ≠ z ∧ live y
    (¬ (1 ≤ z ∧ z ≤ 6) → Answers (.stopZone p z) p 0x50 s ⟨.unknown, .empty⟩) ∧
      (1 ≤ z → z ≤ 6 → (s.zone z).configured = false → Answers (.stopZone p z) p 0x50 s ⟨.state, .empty⟩) ∧
      (1 ≤ z → z ≤ 6 → (s.zone z).configured = true →
        ∃ t, exec (.stopZone p z) s = .next t ∧ s.Steady t ∧ Told t p 0x50 ⟨.ok, .zoneState .shutdown⟩ ∧
          t.zoneState z = .shutdown ∧
          ((s.zone z).causes.length < 16 →
            ∃ c ∈ (t.zone z).causes, c.kind = .masterStop ∧ c.subject = portNumber p) ∧
          (escalates → t.bay.stopped = true ∧ ∃ c ∈ t.bay.causes, c.kind = .secondZone ∧ c.subject = z) ∧
          (¬ escalates → t.bay = s.bay) ∧
          (s.zoneState z ≠ .shutdown →
            (t.zone z).confirmLeft = none ∧
              (∀ i, 1 ≤ i → i ≤ 12 → (s.point i).settings.zone = z ∨ s.tankZoneOf i = z →
                ((s.point i).state = .starting ∨ (s.point i).state = .flowing ∨ (s.point i).state = .held) →
                (t.point i).state = .closing) ∧
              (∀ k, 1 ≤ k → k ≤ 8 → (s.tank k).settings.zone = z →
                (t.tank k).pump.state = .off ∨ (t.tank k).pump.state = .fault) ∧
              ∀ n d, 1 ≤ n → n ≤ 2 → (s.station n).delivery = some d →
                (s.station n).zone = z ∨ (s.tank d.tank).settings.zone = z → (s.station n).state ≠ .idle →
                (t.station n).state = .settling))) ∧
  (∀ (s : State) (p : PortId) (z : Nat), s.Takes p 0x51 → 1 ≤ z → z ≤ 6 →
    let d := s.zone z
    let e : Zone := { d with state := .normal, causes := [], more := false, confirmLeft := none }
    let bad (r : Option Line) := r = some .wet ∨ r = some .opened ∨ r = some .shorted
    let heard (b : BypassInput) := ∀ x ∈ s.bypasses, x.input ≠ b
    let active :=
      bad d.sump ∧ heard (.sump z) ∨ d.emergency = true ∨
        ∃ k, (1 ≤ k ∧ k ≤ 8) ∧ (s.tank k).settings.zone = z ∧ bad (s.overfill.getD k none) ∧ heard (.overfill k)
    let released : State := { s with zones := s.zones.set z e }
    let becomes (u : State) : Prop :=
      Does (.releaseZone p z) p 0x51 s ⟨.ok, .empty⟩ (raise .zoneNormal .zone z 2 0 u)
    (d.configured = true → d.state = .shutdown → d.scanned = true → ¬ active →
      (∃ t, exec (.releaseZone p z) s = .next t ∧ s.Steady t ∧ Told t p 0x51 ⟨.ok, .empty⟩ ∧ t.zone z = e ∧
        (∀ y, y ≠ z → t.zone y = s.zone y) ∧ t.bay = s.bay ∧
        ∀ i, (s.point i).state ≠ .held → (s.point i).state ≠ .flowing → (s.point i).state ≠ .starting →
          t.point i = s.point i) ∧
        ((∀ i, (s.point i).state ≠ .held ∨ (s.point i).holdSpill = false) → (∀ n, (s.station n).state ≠ .paused) →
          becomes released) ∧
        ∀ i g, 1 ≤ i → i ≤ 12 → (s.point i).state = .held → (s.point i).holdSpill = true →
          (s.point i).grant = some g → (s.point i).settings.zone = z ∨ s.tankZoneOf i = z →
          (∀ j, j ≠ i → (s.point j).state ≠ .held ∨ (s.point j).holdSpill = false) →
          (∀ n, (s.station n).state ≠ .paused) →
          let both :=
            released.zoneState (s.point i).settings.zone = .normal ∧ released.zoneState (s.tankZoneOf i) = .normal
          let freed : Point := { s.point i with holdSpill := false }
          (¬ both → becomes released) ∧
            (both → freed.holdMaster = true → becomes { released with points := s.points.set i freed }) ∧
            (both → freed.holdMaster = false → released.MayStart i freed → becomes (released.starts i g freed))) ∧
      (d.configured = true → d.state = .shutdown → d.scanned = true → active →
        Answers (.releaseZone p z) p 0x51 s
          ⟨.busy, match d.causes.find? fun c => c.active with
            | some c => .cause (causeCode c.kind) c.subject
            | none => .cause 0 0⟩) ∧
      (d.configured = false ∨ d.state ≠ .shutdown ∨ d.scanned = false →
        Answers (.releaseZone p z) p 0x51 s ⟨.state, .empty⟩)) ∧
  ∀ (s : State) (z : Nat), s.Ready → 1 ≤ z → z ≤ 6 → s.zoneState z = .suspect →
    (s.zone z).confirmLeft = some 0 →
    let faulty (r : Option Line) := r = some .opened ∨ r = some .shorted
    let heard (b : BypassInput) := ∀ x ∈ s.bypasses, x.input ≠ b
    let suspect :=
      ((s.zone z).sump = some .wet ∨ faulty (s.zone z).sump) ∧ heard (.sump z) ∨
        ∃ k, (1 ≤ k ∧ k ≤ 8) ∧ (s.tank k).settings.zone = z ∧ faulty (s.overfill.getD k none) ∧ heard (.overfill k)
    (suspect →
      ∃ t, exec (.confirmTimerExpiry z) s = .next t ∧ s.Steady t ∧ t.zoneState z = .shutdown ∧
        (t.zone z).causes = (s.zone z).causes ∧
        ∀ i, 1 ≤ i → i ≤ 12 → (s.point i).settings.zone = z → (s.point i).state = .held →
          (t.point i).state = .closing) ∧
      (¬ suspect →
        ∃ t, exec (.confirmTimerExpiry z) s = .next t ∧ s.Steady t ∧
          t.zone z = { s.zone z with state := .normal, causes := [], more := false, confirmLeft := none } ∧
          ∀ y, y ≠ z → t.zone y = s.zone y)

/-- A zone's emergency input pressed shuts a NORMAL or SUSPECT zone down with an ACTIVE entry; released, the entry
becomes LATCHED; at an unconfigured zone only the pin moves (R144, R145, R150). A scan reads every sump line of a
configured zone and every overfill line of a configured tank; a line that turns WET or faulted, not bypassed, takes
its zone out of NORMAL: a sump line and a faulted overfill line to SUSPECT at least, a WET overfill line to SHUTDOWN
(R143, R145, R148, R150, R152). -/
def Obligations.ZoneInputsAreWatched : Prop :=
  (∀ (s : State) (z : Nat), s.Ready → 1 ≤ z → z ≤ 6 →
    let d := s.zone z
    let pin (on : Bool) (u : State) : State := { u with env := { u.env with zoneStops := u.env.zoneStops.set z on } }
    (d.configured = true → d.emergency = false → d.state ≠ .shutdown → d.causes.length < 16 →
      ∃ t, exec (.zoneEmergencyStop z true) s = .next t ∧ (pin true s).Steady t ∧
        (t.zone z).emergency = true ∧ t.zoneState z = .shutdown ∧
        ∃ c ∈ (t.zone z).causes, c.kind = .emergencyStop ∧ c.subject = z ∧ c.active = true) ∧
      (d.configured = true → d.emergency = true →
        Makes (.zoneEmergencyStop z false) s
          (pin false
            { s with
              zones := s.zones.set z
                { d with
                  emergency := false
                  causes := d.causes.map fun c =>
                    if c.kind = .emergencyStop ∧ c.subject = z then { c with active := false } else c } })) ∧
      (d.configured = false → ∀ on, Makes (.zoneEmergencyStop z on) s (pin on s))) ∧
  ∀ (s : State) (r : ScanReadings), s.Ready →
    ∃ t, exec (.sensorScan r) s = .next t ∧ s.Steady t ∧
      ∀ z, 1 ≤ z → z ≤ 6 →
        ((s.zone z).configured = false →
          (t.zone z).sump = (s.zone z).sump ∧ (t.zone z).scanned = (s.zone z).scanned ∧
            t.zoneState z = s.zoneState z) ∧
        ((s.zone z).configured = true →
          (t.zone z).sump = r.sump.get? z ∧ (t.zone z).scanned = true ∧
            (t.zone z).emergency = (s.zone z).emergency ∧
            (sumpCause (s.zone z).sump = none → sumpCause (r.sump.get? z) ≠ none → s.bypassed (.sump z) = false →
              t.zoneState z ≠ .normal) ∧
            (∀ k, 1 ≤ k → k ≤ 8 → (s.tank k).settings.zone = z → (s.tank k).configured = true →
              s.bypassed (.overfill k) = false →
              (overfillCause (s.overfillLine k) ≠ some .overfill → r.overfill.get? k = some .wet →
                t.zoneState z = .shutdown) ∧
              (overfillCause (s.overfillLine k) ≠ some .overfillLineFault →
                r.overfill.get? k = some .opened ∨ r.overfill.get? k = some .shorted → t.zoneState z ≠ .normal)) ∧
            (s.zoneState z = .normal → sumpCause (r.sump.get? z) = sumpCause (s.zone z).sump →
              (∀ k, 1 ≤ k → k ≤ 8 → (s.tank k).settings.zone = z → overfillCause (r.overfill.get? k) = none) →
              t.zoneState z = .normal)) ∧
        ∀ k, 1 ≤ k → k ≤ 8 →
          t.overfillLine k = if (s.tank k).configured then r.overfill.get? k else s.overfillLine k

/-- The bay stops at the first bay cause, from STOP BAY or the bay emergency input, and every dispense, grant, pump
and delivery answers; a further cause only joins the list; RELEASE BAY makes it RUNNING when no MEMORY_FAULT and no
active input keeps it (R75, R154, R155, R157, R159). That the number of the bay as a subject is 0, in its
EMERGENCY_STOP entry and in BAY_RUNNING, is the model's choice: notes/assumptions/49.md. -/
def Obligations.BayStopsAndIsReleased : Prop :=
  ∀ (s : State) (p : PortId),
    let stops (t : State) (c : Cause) : Prop :=
      t.bay.stopped = true ∧ c ∈ t.bay.causes ∧ t.relayClosed = false ∧
        (∀ i, 1 ≤ i → i ≤ 12 →
          (((s.point i).state = .starting ∨ (s.point i).state = .flowing ∨ (s.point i).state = .held) →
            (t.point i).state = .closing) ∧
          ((s.point i).state = .authorized → (t.point i).state = .idle ∧ (t.point i).grant = none)) ∧
        (∀ k, 1 ≤ k → k ≤ 8 → (t.tank k).pump.state = .off ∨ (t.tank k).pump.state = .fault) ∧
        (∀ n, 1 ≤ n → n ≤ 2 → (s.station n).delivery.isSome = true →
          ((s.station n).state = .filling ∨ (s.station n).state = .paused) → (t.station n).state = .settling) ∧
        t.zones = s.zones
    (s.Takes p 0x52 → s.bay.stopped = false → s.bay.causes = [] →
      ∃ t, exec (.stopBay p) s = .next t ∧ s.Steady t ∧ Told t p 0x52 ⟨.ok, .bayStopped true⟩ ∧
        stops t ⟨.masterStop, portNumber p, s.now, false⟩) ∧
      (s.Takes p 0x52 → s.bay.stopped = true →
        (∀ c ∈ s.bay.causes, ¬ (c.kind = .masterStop ∧ c.subject = portNumber p)) →
        Does (.stopBay p) p 0x52 s ⟨.ok, .bayStopped true⟩
          { s with
            bay := { s.bay with causes := s.bay.causes ++ [⟨.masterStop, portNumber p, s.now, false⟩] } }) ∧
      (s.Ready → s.bay.emergency = false → s.bay.stopped = false → s.bay.causes = [] →
        ∃ t, exec (.bayEmergencyStop true) s = .next t ∧
          ({ s with env := { s.env with bayStop := true } } : State).Steady t ∧ t.bay.emergency = true ∧
          stops t ⟨.emergencyStop, 0, s.now, true⟩) ∧
      (s.Ready → s.bay.emergency = true →
        Makes (.bayEmergencyStop false) s
          { s with
            env := { s.env with bayStop := false }
            bay :=
              { s.bay with
                emergency := false
                causes := s.bay.causes.map fun c =>
                  if c.kind = .emergencyStop ∧ c.subject = 0 then { c with active := false } else c } }) ∧
      (s.Takes p 0x53 → s.bay.stopped = true → s.memoryFault = false → s.bay.emergency = false →
        Does (.releaseBay p) p 0x53 s
          ⟨.ok, .zoneStates
            [s.zoneState 1, s.zoneState 2, s.zoneState 3, s.zoneState 4, s.zoneState 5, s.zoneState 6]⟩
          (raise .bayRunning .bay 0 0 0 { s with bay := ⟨false, [], s.bay.emergency⟩ })) ∧
      (s.Takes p 0x53 → s.bay.stopped = true → s.memoryFault = true →
        Answers (.releaseBay p) p 0x53 s ⟨.state, .empty⟩)

/-- BYPASS of a sump line enters it in the list and latches its ACTIVE entries; END BYPASS and the end of its time
remove it, a DRY or unread line raising BYPASS_EXPIRED alone, one that reads WET arriving as SUMP (R160, R161). -/
def Obligations.SumpBypasses : Prop :=
  ∀ (s : State) (p : PortId) (z duration : Nat), 1 ≤ z → z ≤ 6 →
    let r := (s.zone z).sump
    let gone : State := { s with bypasses := s.bypasses.filter fun e => e.input != .sump z }
    (s.Takes p 0x54 → 60 ≤ duration → duration ≤ 28800 → (s.zone z).configured = true →
      s.bypassed (.sump z) = false → s.bypasses.length < 8 →
      Does (.bypass p 1 z duration) p 0x54 s ⟨.ok, .bypass duration r⟩
        { s with
          bypasses := s.bypasses ++ [⟨.sump z, p, duration⟩]
          zones := s.zones.map fun d =>
            { d with
              causes := d.causes.map fun c =>
                if (c.kind = .sump ∨ c.kind = .sensorFault) ∧ c.subject = z then { c with active := false } else c } }) ∧
      (s.Takes p 0x54 → 60 ≤ duration → duration ≤ 28800 → (s.zone z).configured = true →
        s.bypassed (.sump z) = false → 8 ≤ s.bypasses.length →
        Answers (.bypass p 1 z duration) p 0x54 s ⟨.full, .empty⟩) ∧
      (s.bypassed (.sump z) = true → r = none ∨ r = some .dry →
        (s.Takes p 0x55 →
          Does (.endBypass p 1 z) p 0x55 s ⟨.ok, .reading r⟩ (raise .bypassExpired .zone z 2 (lineCode r : Nat) gone)) ∧
        (s.Ready → (∃ q, ⟨.sump z, q, 0⟩ ∈ s.bypasses) →
          Makes (.bypassTimeExpiry 1 z) s (raise .bypassExpired .zone z 1 (lineCode r : Nat) gone))) ∧
      ((∃ q, ⟨.sump z, q, 0⟩ ∈ s.bypasses) → r = some .wet → (s.zone z).configured = true → s.zoneState z = .normal →
        (s.zone z).causes = [] → s.Ready →
        ∃ t, exec (.bypassTimeExpiry 1 z) s = .next t ∧ s.Steady t ∧
          t.bypasses = gone.bypasses ∧ t.zoneState z = .suspect ∧
          (t.zone z).causes = [⟨.sump, z, s.now, true⟩])

/-- Every valve, pump, station and tank inlet output needs the part running and the permits of its zones, a permit
being given by a configured zone in NORMAL while the bay is RUNNING; a tank's inlet valve is open only while a
delivery to that tank is FILLING, with its station's valve (R32, R50, R128, R142, R154, R196, R197). -/
def Obligations.OutputsNeedTheirPermits : Prop :=
  ∀ s : State,
    (∀ z, s.permit z = true ↔ (s.zone z).configured = true ∧ s.zoneState z = .normal ∧ s.bay.stopped = false) ∧
      (∀ i, s.slowOutput i = true →
        s.mode = .running ∧ (s.point i).state = .flowing ∧ s.permit (s.point i).settings.zone = true ∧
          s.permit (s.tankZoneOf i) = true) ∧
      (∀ i, s.fastOutput i = true → s.slowOutput i = true ∧ (s.point i).fast = true) ∧
      (∀ t, s.pumpOutput t = true →
        s.mode = .running ∧ s.permit (s.tank t).settings.zone = true ∧ (s.tank t).pump.state ≠ .off ∧
          (s.tank t).pump.state ≠ .fault) ∧
      (∀ n, s.stationOutput n = true →
        s.mode = .running ∧ (s.station n).state = .filling ∧ s.permit (s.station n).zone = true ∧
          ∃ d, (s.station n).delivery = some d ∧ s.permit (s.tank d.tank).settings.zone = true) ∧
      (∀ k, s.inletOutput k = true →
        s.mode = .running ∧ ∃ n d, (s.station n).delivery = some d ∧ d.tank = k ∧ (s.station n).state = .filling ∧
          s.stationOutput n = true ∧ s.permit (s.station n).zone = true ∧ s.permit (s.tank k).settings.zone = true) ∧
      (∀ n d, s.stationOutput n = true → (s.station n).delivery = some d → s.stationFor d.tank = some n →
        s.inletOutput d.tank = true) ∧
      (s.bay.stopped = true → s.relayClosed = false)

/-! ## Ports, the clock and the log (08, 09) -/

/-- SET QUEUES, from a port holding SUPERVISOR: RANGE for a k outside 1 to 8 or lengths above 384 in all; else the
lengths are set and written to retained memory, a queue beyond its new length keeps its oldest notices and sets its
overflow flag, and the reply carries the three lengths and counts (R185). -/
def Obligations.QueueLengthsAreSet : Prop :=
  ∀ (s : State) (p : PortId) (a b c : Nat), s.Ready → s.Quiet p →
    let ks : Bank Nat 3 := ⟨[a, b, c], rfl⟩
    let fitted (n : Nat) (d : Port) : Port :=
      { d with
        queue := d.queue.take (32 * ks.getD n 4)
        overflow := d.overflow || decide (32 * ks.getD n 4 < d.queue.length) }
    let u : State := { s with queueK := ks, ports := s.ports.mapNumbered fitted }
    let inRange := (1 ≤ a ∧ a ≤ 8) ∧ (1 ≤ b ∧ b ≤ 8) ∧ (1 ≤ c ∧ c ≤ 8) ∧ 32 * a + 32 * b + 32 * c ≤ 384
    ((s.rolesOf p).supervisor = false → Answers (.setQueues p a b c) p 0x65 s ⟨.role, .empty⟩) ∧
      ((s.rolesOf p).supervisor = true → ¬ inRange → Answers (.setQueues p a b c) p 0x65 s ⟨.range, .empty⟩) ∧
      ((s.rolesOf p).supervisor = true → inRange →
        ∃ t, exec (.setQueues p a b c) s = .next t ∧
          t.apart =
            (beginReply p 0x65#8
              ⟨.ok, .queues ⟨[32 * a, 32 * b, 32 * c], rfl⟩ (u.ports.map fun d => d.queue.length)⟩ u).apart ∧
          (s.unreadable = false → t.mem.stored.queueK = ks) ∧
          ∀ q : PortId, ((t.port q).queue = [] ↔ (s.port q).queue = []) ∧
            ((s.port q).queue.length ≤ u.queueLength q → (t.port q).queue = (s.port q).queue))

/-- SET CLOCK, from a port holding SUPERVISOR, is always taken: the time and the set flag, CLOCK_SET with both times,
the reply with what stood before (R187). -/
def Obligations.ClockIsSet : Prop :=
  ∀ (s : State) (p : PortId) (time : Nat), s.Ready → s.Quiet p → time ≤ 4294967295 →
    ((s.rolesOf p).supervisor = false → Answers (.setClock p time) p 0x66 s ⟨.role, .empty⟩) ∧
      ((s.rolesOf p).supervisor = true →
        Does (.setClock p time) p 0x66 s ⟨.ok, .clock s.clock.time s.clock.set⟩
          (raise .clockSet .part 0 s.clock.time time { s with clock := ⟨time, true⟩ }))

/-- ATTACH, from a port holding SUPERVISOR: UNKNOWN for a name that is no port; else the flag is set, the cursor at
the oldest held record or the ticket counter, the skipped count 0, flag and cursor written to retained memory, and no
record leaves (R172). -/
def Obligations.AttachRewindsTheCursor : Prop :=
  ∀ (s : State) (p : PortId) (n : Nat), s.Ready → s.Quiet p →
    let cursor := match s.log.held with
      | h :: _ => h.record.ticket
      | [] => s.log.ticket
    ((s.rolesOf p).supervisor = false → Answers (.attach p n) p 0x67 s ⟨.role, .empty⟩) ∧
      ((s.rolesOf p).supervisor = true →
        (¬ (1 ≤ n ∧ n ≤ 3) → Answers (.attach p n) p 0x67 s ⟨.unknown, .empty⟩) ∧
        (1 ≤ n → n ≤ 3 →
          ∃ t, exec (.attach p n) s = .next t ∧
            t.apart =
              (beginReply p 0x67#8 ⟨.ok, .cursor cursor⟩
                { s with portLog := s.portLog.set n ⟨true, cursor⟩, skipped := s.skipped.set n 0 }).apart ∧
            t.log = s.log ∧ (s.unreadable = false → t.mem.stored.portLog.get? n = some ⟨true, cursor⟩)))

/-- DETACH clears the flag of a port that is not the last attached; the records that every other attached port has
passed leave (R169, R171, R173). COLLECT RECORDS returns up to n records from the port's cursor, moves the cursor past
them, lets the records that every attached port has passed leave, and reports, of the log as it then stands, the
cursor, whether more records lie beyond it, and the skipped count, which it clears (R169, R170, R171): at an attached
port more lie beyond it when more than n did before, where each held record has its own ticket and the one after those
returned is the one that the cursor names. That the removal comes before all of the reply is the model's reading:
notes/assumptions/35.md. -/
def Obligations.RecordsAreCollectedAndLeave : Prop :=
  (∀ (s : State) (p q : PortId), s.Takes p 0x68 →
    let off : State := s.setLogOf q { s.logOf q with attached := false }
    ((s.logOf q).attached = false → Answers (.detach p (portNumber q)) p 0x68 s ⟨.ok, .free s.log.free⟩) ∧
      ((s.logOf q).attached = true → (∀ r, r ≠ q → (s.logOf r).attached = false) →
        Answers (.detach p (portNumber q)) p 0x68 s ⟨.state, .empty⟩) ∧
      ((s.logOf q).attached = true → (∃ r, r ≠ q ∧ (s.logOf r).attached = true) →
        ∃ t, exec (.detach p (portNumber q)) s = .next t ∧ (t.logOf q).attached = false ∧
          t.log.held = s.log.held.drop off.passedByAll ∧ t.log.reserved = s.log.reserved ∧
          Told t p 0x68 ⟨.ok, .free (4096 - (t.log.held.length + s.log.reserved.length))⟩ ∧
          (off.passedByAll = 0 → (t.logOf q).cursor = (s.logOf q).cursor) ∧
          (∀ r, r ≠ q → (s.logOf r).attached = true → t.logOf r = s.logOf r) ∧
          ({ t with log := s.log, portLog := s.portLog, skipped := s.skipped, ports := s.ports } : State).apart =
            s.apart)) ∧
  ∀ (s : State) (p : PortId) (n : Nat), s.Takes p 0x0A →
    let l := s.logOf p
    let beyond := s.log.held.drop (s.log.passed l.cursor)
    let got := beyond.take n
    let cursor := match got.getLast? with
      | some h => if 4294967295 ≤ h.record.ticket then 1 else h.record.ticket + 1
      | none => l.cursor
    let moved : State := s.setLogOf p { l with cursor := cursor }
    let follows := match beyond.drop n with
      | h :: _ => h.record.ticket = cursor
      | [] => cursor = s.log.ticket ∧ ∀ h ∈ s.log.held, h.record.ticket ≠ cursor
    (¬ (1 ≤ n ∧ n ≤ 4) → Answers (.collectRecords p n) p 0x0A s ⟨.range, .empty⟩) ∧
      (1 ≤ n → n ≤ 4 → l.attached = true →
        ∃ t, exec (.collectRecords p n) s = .next t ∧
          Told t p 0x0A
            ⟨.ok, .records (got.map fun h => h.record) cursor (decide (t.log.passed cursor < t.log.held.length))
              (s.skippedOf p) (4096 - (t.log.held.length + s.log.reserved.length))⟩ ∧
          ((s.log.held.map fun h => h.record.ticket).Nodup → follows →
            decide (t.log.passed cursor < t.log.held.length) = decide (n < beyond.length)) ∧
          t.logOf p = { l with cursor := cursor } ∧ t.skippedOf p = 0 ∧
          t.log.held = s.log.held.drop moved.passedByAll ∧ t.log.reserved = s.log.reserved ∧
          (∀ r, r ≠ p → (s.logOf r).attached = true → t.logOf r = s.logOf r) ∧
          ({ t with log := s.log, portLog := s.portLog, skipped := s.skipped, ports := s.ports } : State).apart =
            s.apart) ∧
      (1 ≤ n → n ≤ 4 → l.attached = false →
        let gone := moved.passedByAll
        let place := s.log.passed cursor
        let skipped :=
          if place < gone then min (s.skippedOf p + (gone - place)) 4294967295 else s.skippedOf p
        ∃ t, exec (.collectRecords p n) s = .next t ∧ t.log.held = s.log.held.drop gone ∧
          t.logOf p = { l with cursor := if place < gone then t.log.oldest else cursor } ∧ t.skippedOf p = 0 ∧
          Told t p 0x0A
            ⟨.ok, .records (got.map fun h => h.record) (t.logOf p).cursor
              (decide (t.log.passed (t.logOf p).cursor < t.log.held.length)) skipped
              (4096 - (t.log.held.length + s.log.reserved.length))⟩)

/-- The READ commands and FIND TAG show, field by field, the object they name, and change nothing but the reply; a
number that names no point, tank, station, account, zone, island or port, and a tag that no account carries, is
UNKNOWN (R47, R78, R99, R102, R121, R139, R162, R188). A VACANT account shows its state alone, a DAMAGED one its state
with every figure 0. The model's choices: a READ TANK option of no meaning is RANGE, notes/assumptions/10.md; a
delivery in progress shows no ended time, 38.md; the class and the hour source of a DAMAGED account, 42.md; both
timers of SETTLING, the quiet timer first, 48.md; FIND TAG gives the lowest of two accounts that a start loaded with
one tag, 51.md. -/
def Obligations.ReadsShowTheirObjects : Prop :=
  ∀ (s : State) (p : PortId) (n : Nat), s.Ready → s.Quiet p →
    let point (i : Nat) : PointView :=
      let d := s.point i
      let slow :=
        decide (d.state = .flowing) && s.permit d.settings.zone && s.permit (s.tank d.settings.tank).settings.zone
      { state := d.state, reason := if d.state = .outOfService then d.reason else none, passing := d.passing
        settings := d.settings, inService := d.inService, lifted := s.env.nozzles.getD i false, fast := slow && d.fast
        slow := slow, grant := d.grant, holdMaster := d.holdMaster, holdSpill := d.holdSpill, holdLeft := d.holdLeft
        pulses := d.pulses, gross := d.gross, net := d.net, recorded := d.recorded
        remaining := (d.preset : Int) - d.net, k100 := d.k100, temp := d.temp, flags := d.flags, factor := d.factor
        endCode := d.endCode, creep := d.creep, flow := d.flow, lastEnd := d.lastEnd, lastNet := d.lastNet
        lastTicket := d.lastTicket }
    let tank (t : Nat) : TankView :=
      let k := s.tank t
      let basis : Int := if k.gauge = .fresh then (k.net : Int) else k.book
      let least : Int := if k.gauge = .fresh then min k.book k.net else k.book
      let committed : Nat := (k.commitments.map fun c => c.preset - c.recorded).sum
      { status := k.status, settings := k.settings, gauge := k.gauge, lastSample := k.lastSample
        temp := workingTemp k.temp, flags := sourceFlags k.temp (decide (k.gauge = .stale)), above := k.above
        gross := k.gross, net := k.net, book := k.book, opening := k.opening, receipts := k.receipts
        dispensed := k.dispensed, basis := basis, basisIsGauge := decide (k.gauge = .fresh)
        available := if k.status = .inService then (least - k.settings.lowCutoff - committed).toNat else 0
        commitments := k.commitments.length, committed := committed, pump := k.pump.state, window := k.window }
    let station (m : Nat) : StationView :=
      let k := s.station m
      { settings := k.toStationKept, state := k.state, temp := workingTemp k.temp
        flags := sourceFlags k.temp (!k.reportOk), reportOk := k.reportOk
        valve := match k.delivery with
          | some d => decide (k.state = .filling) && s.permit k.zone && s.permit (s.tank d.tank).settings.zone
          | none => false
        inlet := match k.delivery with
          | some d => s.inletOutput d.tank
          | none => false
        delivery := k.delivery.map fun d => d.toDeliveryFields
        timerLeft := match k.delivery with
          | some d => if k.state = .settling then d.quietLeft else d.noFlowLeft
          | none => none
        maximumLeft := match k.delivery with
          | some d => d.maxLeft
          | none => none
        lastTicket := k.lastTicket, lastEnd := k.lastEnd, lastNet := k.lastNet }
    let account (c : Account) : AccountView :=
      { number := n, account := c, underHold := c.limp.isSome && c.entries.any fun e => e.state == .overdue
        points := (numbers 12).filter fun i => ((s.point i).grant.bind fun g => g.account) == some n
        island := (numbers 4).find? fun j => ((s.island j).visit.map fun v => v.account) == some n }
    let damaged : Account :=
      { state := .damaged, tag := 0, cls := .light, capacity := 0, hourSource := .none, hoursRequired := false
        rollover := none, meter := 0, life := 0, lastTime := none, pending := 0, fuelTotal := 0, lube := {}
        band := none, lastRate := none, limp := none, grace := 0, entries := [], carried := none }
    let bay : BayView :=
      { stopped := s.bay.stopped, causes := s.bay.causes, emergency := s.bay.emergency
        relayClosed := !s.bay.stopped, bypasses := s.bypasses }
    let byp (b : BypassInput) := s.bypasses.any fun e => e.input == b
    let zone (z : Nat) : ZoneView :=
      let d := s.zone z
      { settings := d.toZoneKept, state := d.state, confirmLeft := d.confirmLeft, scanned := d.scanned
        permit := s.permit z, causes := d.causes, more := d.more
        live := decide (d.state = .shutdown) && (d.more || d.causes.any fun c => c.kind != .startUp)
        sump := d.sump, sumpBypassed := byp (.sump z), emergency := d.emergency
        overfills := ((numbers 8).filter fun t => (s.tank t).settings.zone == z).map fun t =>
          ⟨t, s.overfill.getD t none, byp (.overfill t)⟩ }
    let island (i : Nat) : IslandView :=
      let d := s.island i
      { settings := d.toIslandKept, line := d.line, unitFaulted := d.unitFaulted
        closed := s.env.closed.getD i false, lastAck := d.lastAck, displayPending := d.pendingDisplay.isSome
        visit := d.visit.map fun v => v.toVisitFields }
    let port (q : PortId) : PortView :=
      let d := s.port q
      { rate := d.rate, roles := s.rolesOf q, length := 32 * s.queueK.getD (portNumber q) 4
        queued := d.queue.length, overflow := d.overflow, attention := !d.queue.isEmpty, framing := d.framing
        overrun := d.overrun, attached := (s.logOf q).attached, cursor := (s.logOf q).cursor
        skipped := s.skipped.getD (portNumber q) 0, time := s.clock.time, clockSet := s.clock.set
        free := 4096 - (s.log.held.length + s.log.reserved.length) }
    let ok (i : Instr) (code : Nat) (r : Result) : Prop := Answers i p code s ⟨.ok, r⟩
    let unknown (i : Instr) (code : Nat) : Prop := Answers i p code s ⟨.unknown, .empty⟩
    (1 ≤ n → n ≤ 12 → ok (.readPoint p n) 0x01 (.point (point n))) ∧
      (n = 0 ∨ 12 < n → unknown (.readPoint p n) 0x01) ∧
      (1 ≤ n → n ≤ 8 →
        ok (.readTank p n 0) 0x02 (.tank (tank n)) ∧ ok (.readTank p n 1) 0x02 (.strap (s.tank n).live) ∧
          ok (.readTank p n 2) 0x02 (.strap (s.tank n).staging.items) ∧
          ∀ o, 2 < o → Answers (.readTank p n o) p 0x02 s ⟨.range, .empty⟩) ∧
      (n = 0 ∨ 8 < n → ∀ o, unknown (.readTank p n o) 0x02) ∧
      (1 ≤ n → n ≤ 2 → ok (.readStation p n) 0x03 (.station (station n))) ∧
      (n = 0 ∨ 2 < n → unknown (.readStation p n) 0x03) ∧
      (n ≤ 511 → s.account? n = none → ok (.readAccount p n) 0x04 (.accountState .vacant)) ∧
      (∀ c, n ≤ 511 → s.account? n = some c →
        (c.state = .active → ok (.readAccount p n) 0x04 (.account .active (account c))) ∧
          (c.state = .barred → ok (.readAccount p n) 0x04 (.account .barred (account c))) ∧
          (c.state = .damaged → ok (.readAccount p n) 0x04 (.account .damaged (account damaged)))) ∧
      (511 < n → unknown (.readAccount p n) 0x04) ∧
      (∀ (tag : BitVec 64) (front back : List (Nat × Account)) (a : Nat) (c : Account),
        s.accounts = front ++ (a, c) :: back → (∀ e ∈ front, e.2.tag = tag → e.2.state = .damaged) → c.tag = tag →
        (c.state = .active → ok (.findTag p tag) 0x05 (.tagFound a .active)) ∧
          (c.state = .barred → ok (.findTag p tag) 0x05 (.tagFound a .barred))) ∧
      (∀ tag : BitVec 64, (∀ e ∈ s.accounts, e.2.tag = tag → e.2.state = .damaged) → unknown (.findTag p tag) 0x05) ∧
      (1 ≤ n → n ≤ 6 → ok (.readZone p n) 0x06 (.zone (zone n) bay)) ∧ ok (.readZone p 0) 0x06 (.bay bay) ∧
      (6 < n → unknown (.readZone p n) 0x06) ∧
      (1 ≤ n → n ≤ 4 → ok (.readIsland p n) 0x07 (.island (island n))) ∧
      (n = 0 ∨ 4 < n → unknown (.readIsland p n) 0x07) ∧
      (∀ q : PortId, ok (.readPort p (portNumber q)) 0x08 (.port (port q))) ∧
      (n = 0 ∨ 3 < n → unknown (.readPort p n) 0x08)

/-! ## The link (09, 11) -/

/-- The receiver's states: HUNT waits for 0xA5, LENGTH takes 2 to 250, BODY stores its bytes, CHECK takes the check
word; a gap or a bad byte in a frame drops it with the framing flag; a frame whose check word fails is dropped so
(R176, R177). An event of the link whose operand says that the outstanding command's reply has begun before it is that
event after the beginning of that reply, where no earlier one is still being sent; with none outstanding, or an
earlier one being sent, the operand says nothing (R178; that the events carry it is the model's choice:
notes/assumptions/37.md). A frame whose check word agrees, at a port with no command outstanding and no reply being
sent, is the command row that its body spells: role, length and owner's answer are judged in the order of R180 (R177,
R178, R180, R203). Its effect and its answer are the row's, and it is outstanding until its reply begins; RESTART and
CLEAR ALL that are taken start the part as their rows do. A good frame with a command outstanding is dropped with the
overrun flag; one taken while a reply is being sent has its effect and its answer waits. The end of a reply begins the
one that waits behind it, and leaves the line idle when none waits; the end of the reply of the outstanding command
itself, which had begun, carries and clears the link flags (R178, R179; the model's reading of REPLY_SENT:
notes/assumptions/23.md). -/
def Obligations.FramesBecomeCommands : Prop :=
  (∀ (s : State) (p : PortId) (x : Byte), s.mode = .running →
    let d := s.port p
    let goes (i : Instr) (e : Port) : Prop := exec i s = .next (s.setPort p e)
    let dropped : Port := { d with rx := .hunt, gap := false, framing := true }
    (d.rx = .hunt →
      (x = 0xA5#8 → goes (.portByteReceived ⟨p, false⟩ x) { d with rx := .length, gap := true }) ∧
        (x ≠ 0xA5#8 → exec (.portByteReceived ⟨p, false⟩ x) s = .next s) ∧ exec (.badByte ⟨p, false⟩) s = .next s) ∧
      (d.rx = .length →
        (2 ≤ x.toNat → x.toNat ≤ 250 →
          goes (.portByteReceived ⟨p, false⟩ x) { d with rx := .body x.toNat [], gap := true }) ∧
          (x.toNat < 2 ∨ 250 < x.toNat → goes (.portByteReceived ⟨p, false⟩ x) dropped)) ∧
      (∀ n got, d.rx = .body n got →
        goes (.portByteReceived ⟨p, false⟩ x)
          { d with
            rx := if got.length + 1 < n then .body n (got ++ [x]) else .check (got ++ [x]) none, gap := true }) ∧
      (∀ body, d.rx = .check body none →
        goes (.portByteReceived ⟨p, false⟩ x) { d with rx := .check body (some x), gap := true }) ∧
      (∀ body y, d.rx = .check body (some y) →
        (checkWord (BitVec.ofNat 8 body.length :: body)).toNat ≠ y.toNat * 256 + x.toNat →
        goes (.frameReceived ⟨p, false⟩ x) dropped) ∧
      (d.rx ≠ .hunt → goes (.badByte ⟨p, false⟩) dropped) ∧ (d.gap = true → goes (.portGapTimeout ⟨p, false⟩) dropped)) ∧
  (∀ (s : State) (p : PortId) (x : Byte), s.mode = .running →
    ∀ event ∈ [(Instr.frameReceived · x), (Instr.portByteReceived · x), Instr.badByte, Instr.portGapTimeout],
      (∀ code a, (s.port p).waiting = some (code, a) → (s.port p).sending = false →
        exec (event ⟨p, true⟩) s = exec (event ⟨p, false⟩) (beginReply p code a s)) ∧
        ((s.port p).waiting = none ∨ (s.port p).sending = true → exec (event ⟨p, true⟩) s = exec (event ⟨p, false⟩) s)) ∧
  (∀ (s : State) (p : PortId) (x y code : Byte) (begun : Bool) (rest : List Byte) (c : Instr), s.mode = .running →
    s.Quiet p →
    let body := code :: rest
    (s.port p).rx = .check body (some y) →
    (checkWord (BitVec.ofNat 8 body.length :: body)).toNat = y.toNat * 256 + x.toNat →
    let hunting : State := s.setPort p { s.port p with rx := .hunt, gap := false }
    let frame := Instr.frameReceived ⟨p, begun⟩ x
    let starts := code = 0x69#8 ∨ code = 0x6A#8 ∧ (s.bay.stopped = true ∨ ∀ z, 1 ≤ z → z ≤ 6 → s.zoneState z = .shutdown)
    let refused (st : Status) : Prop :=
      exec frame s = .next (hunting.setPort p { hunting.port p with waiting := some (code, ⟨st, .empty⟩) })
    (permitted s p code.toNat = true → lengthOk code.toNat body = true → readCommand p body = some c →
      (starts → exec frame s = exec c hunting) ∧
        (¬ starts → ∃ u a, exec frame s = .next u ∧ (u.port p).waiting = some (code, a) ∧ (u.port p).sending = false ∧
          exec c hunting = .next (beginReply p code a u))) ∧
      (commandRoles code.toNat = none → s.touched = [] → refused .unknown) ∧
      (commandRoles code.toNat ≠ none → permitted s p code.toNat = false → s.touched = [] → refused .role) ∧
      (commandRoles code.toNat ≠ none → permitted s p code.toNat = true → lengthOk code.toNat body = false →
        s.touched = [] → refused .format)) ∧
  ∀ (s : State) (p : PortId) (x y : Byte) (body : List Byte) (begun : Bool), s.mode = .running →
    let d := s.port p
    (d.rx = .check body (some y) →
      (checkWord (BitVec.ofNat 8 body.length :: body)).toNat = y.toNat * 256 + x.toNat → d.waiting.isSome = true →
      begun = false ∨ d.sending = true →
      exec (.frameReceived ⟨p, begun⟩ x) s =
        .next (s.setPort p { d with rx := .hunt, gap := false, overrun := true })) ∧
      (∀ n : Nat, 1 ≤ n → n ≤ 12 → s.touched = [] → d.rx = .check [0x01#8, BitVec.ofNat 8 n] (some y) →
        (checkWord [0x02#8, 0x01#8, BitVec.ofNat 8 n]).toNat = y.toNat * 256 + x.toNat → d.waiting = none →
        d.sending = true →
        exec (.frameReceived ⟨p, begun⟩ x) s =
          .next (s.setPort p
            { d with rx := .hunt, gap := false, waiting := some (0x01#8, ⟨.ok, .point (pointView s n)⟩) })) ∧
      (d.waiting = none → exec (.replySent p) s = .next (s.setPort p { d with sending := false })) ∧
      ∀ code a, d.waiting = some (code, a) →
        let sent : Port :=
          { d with tx := some ⟨code, a, d.framing, d.overrun⟩, waiting := none, framing := false, overrun := false }
        exec (.replySent p) s = .next (s.setPort p { sent with sending := d.sending })

/-! ## Island lines and visits (04) -/

/-- The exchanges of an island line: the poll timer begins a poll; a good reply ends it, starts the timer and makes an
UNKNOWN or FAULT line ONLINE; a failed try (PARITY for a byte in error, LENGTH, TIMEOUT) is repeated twice, the third
makes the line FAULT; a display is acknowledged or fails the line (R81 to R86, R88). That a failure discards the
display and the poll that wait is the model's reading of R85: notes/assumptions/24.md; that an ACK to a poll is a
LENGTH failure, and that a reply outside an exchange is void, are its reading of R83: 25.md; the details of
ISLAND_LINE_RESTORED and the second of ISLAND_UNIT_FAULT are its choice: 40.md. The bytes of a good reply, each with
odd parity and its stop bit, complete after 5 ms of silence, are the reply row they spell; bytes that are not complete
are a TIMEOUT, and with a byte in error the reply is PARITY (R81, R83, R206; that PARITY comes before the other kinds
is the model's choice: notes/assumptions/25.md). -/
def Obligations.IslandLinesExchange : Prop :=
  (∀ (s : State) (i : Nat), s.Ready → 1 ≤ i → i ≤ 4 →
    let d := s.island i
    let put (e : Island) : State := { s with islands := s.islands.set i e }
    let ended : Island := { d with exchange := none, pollLeft := some 250 }
    let faulted : Island :=
      { d with line := .fault, exchange := none, pendingDisplay := none, pollDue := false, pollLeft := some 2000 }
    let free := d.pendingDisplay = none ∧ d.pollDue = false
    (d.pollLeft.isSome = true → d.exchange = none → d.pendingDisplay = none →
      Makes (.pollTimerExpiry i) s
        (put { d with pollLeft := none, pollDue := false, exchange := some (.poll 0), sent := some .poll })) ∧
      (∀ x, d.pollLeft.isSome = true → d.exchange = some x →
        Makes (.pollTimerExpiry i) s (put { d with pollLeft := none, pollDue := true })) ∧
      (∀ k, d.exchange = some (.poll k) → d.line = .online → free →
        Makes (.idleReply i) s (put { ended with unitFaulted := false }) ∧
          Makes (.islandReplyQuiet i [lineByte 0x10#8]) s (put { ended with unitFaulted := false }) ∧
          ∀ code,
            (d.unitFaulted = true → Makes (.unitFault i code) s (put ended)) ∧
              (d.unitFaulted = false →
                Makes (.unitFault i code) s
                  (raise .islandUnitFault .island i code 0 (put { ended with unitFaulted := true })))) ∧
      (∀ k, d.exchange = some (.poll k) → d.line = .fault → free → s.closedSwitch i = false → d.visit = none →
        d.configured = true →
        Makes (.idleReply i) s
          (raise .islandLineRestored .island i 0 0 (put { ended with line := .online, unitFaulted := false }))) ∧
      (∀ k, d.exchange = some (.poll k) → d.line = .unknown → free → d.configured = true →
        (s.closedSwitch i = false → d.visit = none →
          Makes (.idleReply i) s (put { ended with line := .online, unitFaulted := false })) ∧
          (s.closedSwitch i = true →
            Makes (.idleReply i) s
              (put
                { ended with
                  line := .online, unitFaulted := false, exchange := some (.display ⟨.closed, 0⟩)
                  sent := some (.display ⟨.closed, 0⟩) }))) ∧
      (∀ m, d.exchange = some (.display m) → free →
        Makes (.ack i) s (put { d with exchange := none, lastAck := some m })) ∧
      (∀ k kind, d.exchange = some (.poll k) →
        let tries (c : Instr) : Prop :=
          (d.line ≠ .fault → k + 1 < 3 →
            Makes c s (put { d with exchange := some (.poll (k + 1)), sent := some .repeatLast })) ∧
          (d.line ≠ .fault → 3 ≤ k + 1 → Makes c s (raise .islandLineFault .island i kind 0 (put faulted))) ∧
          (d.line = .fault → Makes c s (put faulted))
        (∀ bytes : List LineByte, (∃ b ∈ bytes, LineByte.inError b = true) →
          kind = 1 → tries (.islandReplyBad i bytes) ∧ tries (.islandReplyQuiet i bytes)) ∧
          (∀ bytes : List LineByte, (∀ b ∈ bytes, LineByte.inError b = false) → kind = 2 → tries (.islandReplyBad i bytes)) ∧
          (kind = 3 → tries (.islandReplyTimeout i)) ∧ (kind = 2 → tries (.ack i))) ∧
      (∀ m, d.exchange = some (.display m) → d.line ≠ .fault →
        Makes (.islandReplyTimeout i) s (raise .islandLineFault .island i 4 (displayNumber m.code) (put faulted))) ∧
      (∀ b : LineByte,
        LineByte.inError b = true ↔
          ((if b.parity then 1 else 0) + ((List.range 8).filter fun k => b.data.getLsbD k).length) % 2 = 0 ∨
            b.stop = false) ∧
      (d.exchange = none → Makes (.idleReply i) s s ∧ Makes (.ack i) s s ∧ Makes (.islandReplyTimeout i) s s)) ∧
  ∀ (s : State) (i : Nat) (code flag : Byte) (identity hours digits : List Byte),
    let quiet (bytes : List Byte) : Instr := .islandReplyQuiet i (bytes.map lineByte)
    (∀ x : Byte, (lineByte x).data = x ∧ LineByte.inError (lineByte x) = false) ∧
      exec (quiet [0x10#8]) s = exec (.idleReply i) s ∧ exec (quiet [0x06#8]) s = exec (.ack i) s ∧
      exec (quiet [0x13#8, code]) s = exec (.unitFault i code.toNat) s ∧
      (identity.length = 8 → flag.getLsbD 0 = false →
        exec (quiet (0x11#8 :: (identity ++ [flag]))) s =
          exec (.tag i (BitVec.ofNat 64 (natOf identity)) none) s) ∧
      (identity.length = 8 → flag.getLsbD 0 = true → hours.length = 3 →
        exec (quiet (0x11#8 :: (identity ++ flag :: hours))) s =
          exec (.tag i (BitVec.ofNat 64 (natOf identity)) (some (natOf hours))) s) ∧
      (digits.length ≤ 7 → (∀ x ∈ digits, x.toNat ≤ 9) →
        exec (quiet (0x12#8 :: BitVec.ofNat 8 digits.length :: digits)) s =
          exec (.keys i (digits.map fun x => x.toNat)) s) ∧
      exec (quiet []) s = exec (.islandReplyTimeout i) s ∧
      exec (quiet [0x13#8]) s = exec (.islandReplyTimeout i) s ∧
      ∀ bytes : List LineByte, (∃ b ∈ bytes, LineByte.inError b = true) →
        exec (.islandReplyQuiet i bytes) s = exec (.islandReplyBad i bytes) s

/-- A tag read at an ONLINE island without a visit opens one for the ACTIVE account that carries it: READY at once
when no hours are needed, else WAITING_HOURS with ENTER_HOURS; an unknown tag is shown and raised (R83, R89, R91,
R92). Which of two accounts a start loaded with one tag is taken is the model's choice: notes/assumptions/51.md. Keys
in WAITING_HOURS are a reading: accepted, it moves the account's meter and the visit is READY; refused, the attempts
rise and HOURS_REFUSED is shown and raised (R93, R95, R105, R106). -/
def Obligations.TagsAndKeysOpenVisits : Prop :=
  (∀ (s : State) (i k : Nat) (tag : BitVec 64), s.Ready → 1 ≤ i → i ≤ 4 →
    let d := s.island i
    d.exchange = some (.poll k) → d.line = .online → d.configured = true → d.pendingDisplay = none →
    s.closedSwitch i = false → d.visit = none →
    let shows (m : Display) : Island :=
      { d with exchange := some (.display m), sent := some (.display m), pollLeft := some 250, unitFaulted := false }
    (∀ a c hours, s.findTag? tag = some (a, c) → c.state = .active → s.visitOf a = none →
      let v : Visit :=
        { account := a, opened := s.now, hour := .pending, reading := none, delta := none, attempts := 0, list := []
          phase := .waitingHours, idle := some d.idleTime, endReason := none, lastRefusal := none }
      (c.hourSource = .none →
        Makes (.tag i tag hours) s
          { s with
            islands := s.islands.set i
              { shows ⟨.ready, a⟩ with visit := some { v with hour := .notNeeded, phase := .ready } } }) ∧
      (c.hourSource = .keypad ∨ c.hourSource = .tag ∧ hours = none →
        Makes (.tag i tag hours) s
          { s with islands := s.islands.set i { shows ⟨.enterHours, 3⟩ with visit := some v } })) ∧
      (s.findTag? tag = none →
        Makes (.tag i tag none) s
          (raise .unknownTag .island i 0 0
            { s with islands := s.islands.set i (shows ⟨.unknownTag, 0⟩) }))) ∧
  ∀ (s : State) (i k : Nat) (digits : List Nat) (v : Visit) (c : Account), s.Ready → 1 ≤ i → i ≤ 4 →
    (s.island i).exchange = some (.poll k) → (s.island i).line = .online → (s.island i).configured = true →
    (s.island i).visit = some v → v.phase = .waitingHours → digits ≠ [] → digits.length ≤ 7 → (∀ x ∈ digits, x ≤ 9) →
    s.account? v.account = some c →
    let h := digits.foldl (fun n d => 10 * n + d) 0
    let w : Visit := { v with idle := v.idle.map fun _ => (s.island i).idleTime }
    (∀ d, judgeReading s.clock c.meter c.rollover c.lastTime h = .accepted d →
      ∃ t e, exec (.keys i digits) s = .next t ∧ s.Steady t ∧
        (t.island i).visit = some { w with hour := .accepted, reading := some h, delta := some d, phase := .ready } ∧
        (t.island i).exchange = some (.display ⟨.ready, v.account⟩) ∧ t.account? v.account = some e ∧ e.meter = h ∧
        e.life = min (c.life + d) 4294967295 ∧ e.pending = c.pending ∧ t.points = s.points ∧ t.log = s.log) ∧
      ∀ r, judgeReading s.clock c.meter c.rollover c.lastTime h = .refused r → v.attempts < 2 →
        ∃ t, exec (.keys i digits) s = .next t ∧ s.Steady t ∧
          (t.island i).visit =
            some { w with attempts := v.attempts + 1, lastRefusal := some r, hour := .refused } ∧
          (t.island i).exchange =
            some (.display ⟨.hoursRefused, refusalCode r * 256 + (2 - v.attempts)⟩) ∧ t.accounts = s.accounts ∧
          ∀ q : PortId,
            (t.port q).queue = (s.port q).queue ++
              joins s q (audienceOf .hoursRefused) ⟨.hoursRefused, s.now, .account, v.account, refusalCode r, h⟩

/-- The idle timer of a visit, run out, ends it: an accepted delta above 0 closes the burn interval of a machine,
GOODBYE is shown and VISIT_ENDED raised, last of what the end raises; an expiry that finds the timer running again or
stopped is void. The closed switch, closed, shows CLOSED, and opened, the standing display: the hours to enter, the
account that is ready, or nothing (R89, R90, R96, R97, R109). -/
def Obligations.VisitsEndWhenIdle : Prop :=
  ∀ (s : State) (i : Nat), s.Ready → 1 ≤ i → i ≤ 4 →
    let d := s.island i
    let shows (m : Display) : State :=
      { s with
        env := { s.env with closed := s.env.closed.set i false }
        islands := s.islands.set i
          { d with exchange := some (.display m), pendingDisplay := none, sent := some (.display m) } }
    (∀ v, d.visit = some v → v.idle = some 0 →
      ∃ t, exec (.visitIdleTimeout i) s = .next t ∧ s.Steady t ∧ (t.island i).visit = none ∧ t.points = s.points ∧
        t.log = s.log ∧
        (∀ q : PortId,
          let ended : Notice := ⟨.visitEnded, s.now, .island, i, 1, v.account⟩
          let few := (s.port q).queue.length + 1 < s.queueLength q
          ((v.hour ≠ .accepted ∨ v.delta = some 0) →
            (t.port q).queue = (s.port q).queue ++ joins s q (.holding { dispatch := true }) ended) ∧
            (few → (s.rolesOf q).dispatch = true → (t.port q).queue.getLast? = some ended)) ∧
        (d.line = .online → d.configured = true → d.exchange = none →
          (t.island i).exchange = some (.display ⟨.goodbye, v.account⟩)) ∧
        ∀ c delta, s.account? v.account = some c → v.hour = .accepted → v.delta = some delta → 0 < delta →
          c.cls ≠ .service →
          t.account? v.account = some { c with lastRate := some (c.pending / delta), pending := 0 }) ∧
      (d.visit = none → Makes (.visitIdleTimeout i) s s) ∧
      (∀ v, d.visit = some v → v.idle ≠ some 0 → Makes (.visitIdleTimeout i) s s) ∧
      (s.closedSwitch i = true → d.line = .online → d.configured = true → d.exchange = none →
        (∀ v, d.visit = some v → v.phase = .waitingHours →
          Makes (.islandClosedSwitch i false) s (shows ⟨.enterHours, 3 - v.attempts⟩)) ∧
          (∀ v, d.visit = some v → v.phase = .ready →
            Makes (.islandClosedSwitch i false) s (shows ⟨.ready, v.account⟩)) ∧
          (d.visit = none ∨ (∃ v, d.visit = some v ∧ v.phase = .ending) →
            Makes (.islandClosedSwitch i false) s
              { s with env := { s.env with closed := s.env.closed.set i false } })) ∧
      (s.closedSwitch i = false → d.line = .online → d.configured = true → d.exchange = none →
        Makes (.islandClosedSwitch i true) s
          { s with
            env := { s.env with closed := s.env.closed.set i true }
            islands := s.islands.set i
              { d with
                exchange := some (.display ⟨.closed, 0⟩), pendingDisplay := none
                sent := some (.display ⟨.closed, 0⟩) } }) ∧
      ∀ (p : PortId) (flag : Bool) (idle : Nat), s.Takes p 0x61 → 10 ≤ idle → idle ≤ 600 →
        (flag = true → d.configured = true →
          Does (.islandSet p i flag idle) p 0x61 s ⟨.ok, .empty⟩
            { s with islands := s.islands.set i { d with idleTime := idle } }) ∧
        (flag = true → d.configured = false →
          Does (.islandSet p i flag idle) p 0x61 s ⟨.ok, .empty⟩
            { s with
              islands := s.islands.set i
                { d with
                  configured := true, idleTime := idle, line := .unknown, unitFaulted := false
                  pollLeft := some 250, pollDue := false } }) ∧
        (flag = false → d.visit = none →
          Does (.islandSet p i flag idle) p 0x61 s ⟨.ok, .empty⟩
            { s with
              islands := s.islands.set i
                { d with
                  configured := false, idleTime := idle, line := .unknown, exchange := none, pendingDisplay := none
                  pollLeft := none, pollDue := false } }) ∧
        (flag = false → d.visit.isSome = true → Answers (.islandSet p i flag idle) p 0x61 s ⟨.busy, .empty⟩)

/-! ## Clock, power and starts (09, 10) -/

/-- A second of running time adds one to the clock, 0 following 4,294,967,295 and the set flag kept, and takes one
from every running timer of seconds, of points, tanks, zones, visits, stations and deliveries, and from every bypass;
nothing else changes (R160, R186). That a timer which has run out stands at 0 until its expiry is taken is the model's
choice: notes/assumptions/1.md. An expiry changes nothing while its timer of seconds is stopped or has seconds left,
as one that a pulse or a movement taken first has started afresh has (R41, R64, R96, R130, R134). That an expiry due
at the moment of a second of bay time is taken after that second is the model's choice: notes/assumptions/1.md. -/
def Obligations.SecondsPass : Prop :=
  (∀ s : State, s.Ready →
    ∃ t, exec .bayClockSecond s = .next t ∧
      t.clock = ⟨if s.clock.time < 4294967295 then s.clock.time + 1 else 0, s.clock.set⟩ ∧
      t.bypasses = s.bypasses.map (fun e => { e with remaining := e.remaining - 1 }) ∧
      (∀ i, 1 ≤ i → i ≤ 12 →
        t.point i =
          { s.point i with
            authLeft := (s.point i).authLeft.map (· - 1), noFlowLeft := (s.point i).noFlowLeft.map (· - 1)
            rateLeft := (s.point i).rateLeft.map (· - 1), holdLeft := (s.point i).holdLeft.map (· - 1)
            quietLeft := (s.point i).quietLeft.map (· - 1), maxLeft := (s.point i).maxLeft.map (· - 1) }) ∧
      (∀ k, 1 ≤ k → k ≤ 8 →
        let c := s.tank k
        t.tank k =
          { c with
            silence := c.silence.map (· - 1)
            pump := ⟨c.pump.state, c.pump.startLeft.map (· - 1), c.pump.runOnLeft.map (· - 1)⟩
            window := { c.window with settle := c.window.settle.map (· - 1) } }) ∧
      (∀ z, 1 ≤ z → z ≤ 6 →
        t.zone z = { s.zone z with confirmLeft := (s.zone z).confirmLeft.map (· - 1) }) ∧
      (∀ i, 1 ≤ i → i ≤ 4 →
        t.island i =
          { s.island i with visit := (s.island i).visit.map fun v => { v with idle := v.idle.map (· - 1) } }) ∧
      (∀ n, 1 ≤ n → n ≤ 2 →
        t.station n =
          { s.station n with
            silence := (s.station n).silence.map (· - 1)
            delivery := (s.station n).delivery.map fun d =>
              { d with
                noFlowLeft := d.noFlowLeft.map (· - 1), quietLeft := d.quietLeft.map (· - 1)
                maxLeft := d.maxLeft.map (· - 1) } }) ∧
      ({ t with
          clock := s.clock, bypasses := s.bypasses, points := s.points, tanks := s.tanks, zones := s.zones
          islands := s.islands, stations := s.stations } : State).apart = s.apart) ∧
  ∀ s : State, s.Ready →
    (∀ i, 1 ≤ i → i ≤ 12 →
      let d := s.point i
      (d.authLeft ≠ some 0 → Makes (.authorizationTimeout i) s s) ∧
        (d.noFlowLeft ≠ some 0 → Makes (.noFlowTimeout i) s s) ∧
        (d.rateLeft ≠ some 0 → Makes (.rateWindowExpiry i) s s) ∧
        (d.holdLeft ≠ some 0 → Makes (.holdTimerExpiry i) s s) ∧
        (d.quietLeft ≠ some 0 → Makes (.closingQuietExpiry i) s s) ∧
        (d.maxLeft ≠ some 0 → Makes (.closingMaximumExpiry i) s s)) ∧
      (∀ t, 1 ≤ t → t ≤ 8 →
        let k := s.tank t
        (k.silence ≠ some 0 → Makes (.gaugeSilenceExpiry t) s s) ∧
          (k.window.settle ≠ some 0 → Makes (.windowSettleExpiry t) s s) ∧
          (k.pump.startLeft ≠ some 0 → Makes (.pumpStartTimeout t) s s) ∧
          (k.pump.runOnLeft ≠ some 0 → Makes (.pumpRunOnExpiry t) s s)) ∧
      (∀ n, 1 ≤ n → n ≤ 2 →
        let k := s.station n
        (k.silence ≠ some 0 → Makes (.stationSilenceExpiry n) s s) ∧
          ((∀ d, k.delivery = some d → d.noFlowLeft ≠ some 0) → Makes (.deliveryNoFlowExpiry n) s s) ∧
          ((∀ d, k.delivery = some d → d.quietLeft ≠ some 0) → Makes (.settlingQuietExpiry n) s s) ∧
          ((∀ d, k.delivery = some d → d.maxLeft ≠ some 0) → Makes (.settlingMaximumExpiry n) s s)) ∧
      (∀ z, 1 ≤ z → z ≤ 6 → (s.zone z).confirmLeft ≠ some 0 → Makes (.confirmTimerExpiry z) s s) ∧
      (∀ i, 1 ≤ i → i ≤ 4 → (∀ v, (s.island i).visit = some v → v.idle ≠ some 0) → Makes (.visitIdleTimeout i) s s) ∧
      ∀ kind number, (∀ e ∈ s.bypasses, e.remaining ≠ 0) → Makes (.bypassTimeExpiry kind number) s s

/-- While the part does not run it takes no command and no event but pins, the end of a reply, power, the warning and
the reset line (R196, R197). The power-fail warning turns every output off, makes the final save of each dispense and
each delivery in progress and leaves the part in power-fail hold; the reset line holds it with nothing saved; the loss
of power keeps the pins and the memory alone (R9, R63, R196, R197). What the model reads into these rules: the bay
stop relay stays closed in power-fail hold and opens without power, notes/assumptions/13.md; what a part without power
still holds, 31.md; the reply of a command row has begun when the warning comes, 2.md, and one begun is sent in full,
23.md. -/
def Obligations.PowerIsLost : Prop :=
  (∀ (c : Instr) (s t : State), s.mode ≠ .running → needsRunning c = true → exec c s = .next t → t = s) ∧
  ∀ s : State,
    (s.Ready →
      ∃ t, exec .powerFailWarning s = .next t ∧ t.mode = .powerFailHold ∧ (∀ i, t.slowOutput i = false) ∧
        (∀ k, t.pumpOutput k = false) ∧ (∀ n, t.stationOutput n = false) ∧
        (∀ i g, 1 ≤ i → i ≤ 12 → (s.entry i).isSome = true → (s.point i).grant = some g →
          t.point i = (s.point i).withSave ∧
            t.entry i = some (.dispense
              (dispenseImage i (s.point i).withSave g (s.tankOf i).settings.product))) ∧
        (∀ n d, 1 ≤ n → n ≤ 2 → (s.entry (12 + n)).isSome = true → (s.station n).delivery = some d →
          let k := s.tank d.tank
          let factor := factorOf (s.product k.settings.product).alpha (workingTemp (s.station n).temp)
          let inc := netOf (d.gross - d.savedGross) factor
          let saved : Delivery :=
            { d with
              factor := factor, recorded := min (d.recorded + inc) 4294967295, savedGross := d.gross
              flags := unionFlags d.flags (s.station n).flags }
          t.station n = { s.station n with delivery := some saved } ∧
            t.entry (12 + n) =
              some (.delivery (deliveryImage n (s.station n).state saved k.settings.product))) ∧
        t.relayClosed = !s.bay.stopped ∧ t.log = s.log ∧ t.zones = s.zones ∧ t.bay = s.bay ∧ t.ports = s.ports) ∧
      (s.mode ≠ .off →
        exec .resetLineAsserted s = .next { s with mode := .resetHeld } ∧
          ∀ i, ({ s with mode := .resetHeld } : State).slowOutput i = false) ∧
      ∃ t, exec (.powerFailure .none) s = .next t ∧ t.mode = .off ∧ t.mem = s.mem ∧ t.env = s.env ∧
        t.points = State.reset.points ∧ t.tanks = State.reset.tanks ∧ t.accounts = [] ∧ t.bypasses = [] ∧
        t.clock = ⟨0, false⟩ ∧ (∀ p, (t.port p).queue = []) ∧ t.relayClosed = false

/-- A start loads the retained figures of a memory whose objects and group area are in order and that holds no entry
in progress, at power-on, when the warning is withdrawn, when the reset line is released and by RESTART: the part
runs, each port's rate is that of its straps as they then stand, a change made since the last start with them (R176),
STARTED stands in every queue, every zone is in SHUTDOWN, and a point in service with its passing mark is out of
service with PASSING, in memory too (R77, R79, R163, R191, R193, R196, R197, R198; how a start finds a change of the
straps is the model's choice: notes/assumptions/12.md). A complete group area is first settled (R193). A warning that
cuts the start leaves power-fail hold (R196; the form in which a warning falls in a start, and what it then leaves,
are the model's choice: notes/assumptions/12.md and 27.md; that PASSING is written at start, in one group, its
reading: 35.md). CLEAR ALL, with the bay STOPPED or every zone in SHUTDOWN, replies and makes a cold start on
formatted memory, each port's rate read from its straps as they then stand (R176); else it is refused STATE (R189,
R190, R191, R200). A warning that cuts it leaves power-fail hold, with the marker not yet written when it falls before
the formatting (R196; the model's choice: notes/assumptions/12.md and 27.md). -/
def Obligations.StartsLoadTheMemory : Prop :=
  (∀ s : State, s.mem.answers = true → s.mem.marker = .present → s.mem.bad = [] → s.mem.area = .settled →
    s.mem.fates = [] → (∀ x ∈ s.mem.stored.index.openMarks.items, x = false) →
    let loads (c : Instr) (manner : Int) (straps : Bank Nat 3) : Prop :=
      ∃ t, exec c s = .next t ∧ t.mode = .running ∧ t.env.straps = straps ∧
        (∀ q : PortId, (t.port q).rate = rateOfStraps (straps.getD (portNumber q) 0)) ∧ t.roles = s.mem.stored.roles ∧
        t.queueK = s.mem.stored.queueK ∧ t.products = s.mem.stored.products ∧ t.accounts = s.mem.stored.accounts ∧
        t.tanks.map (fun k => k.toTankKept) = s.mem.stored.tanks ∧
        t.islands.map (fun k => k.toIslandKept) = s.mem.stored.islands ∧
        t.stations.map (fun k => k.toStationKept) = s.mem.stored.stations ∧
        t.zones.map (fun k => k.toZoneKept) = s.mem.stored.zones ∧ t.log.ticket = s.mem.stored.ticket ∧
        t.clock = ⟨0, false⟩ ∧ t.bypasses = [] ∧ t.mem.stored.roles = s.mem.stored.roles ∧
        (∀ i, 1 ≤ i → i ≤ 12 → ∀ k, s.mem.stored.points.get? i = some k →
          (t.point i).toPointKept =
              (if k.inService ∧ k.passing then { k with inService := false, reason := some .passing } else k) ∧
            t.mem.stored.points.get? i = some (t.point i).toPointKept) ∧
        (∀ p : PortId, (t.port p).queue.head? = some ⟨.started, 0, .part, 0, manner, 0⟩) ∧
        ∀ z, 1 ≤ z → z ≤ 6 → t.zoneState z = .shutdown
    let finds (straps : Option (Bank Nat 3)) : StartFinds := { StartFinds.unchanged with straps := straps }
    (∀ straps,
      loads (.powerOn (finds straps)) 1 (straps.getD s.env.straps) ∧
        (s.mode = .powerFailHold →
          loads (.powerFailWarningWithdrawn (finds straps)) 1 (straps.getD s.env.straps)) ∧
        (s.mode = .resetHeld → loads (.resetLineReleased (finds straps)) 2 (straps.getD s.env.straps))) ∧
      (∀ p : PortId, s.mode = .running → permitted s p 0x69 = true → (∀ n, s.entry n = none) →
        (s.env.coming = [] → loads (.restart p) 3 s.env.straps) ∧
          ∀ (straps : Option (Bank Nat 3)) (cut : Option Nat) (rest : List CommandStart),
            s.env.coming = ⟨straps, none, cut⟩ :: rest →
            (cut = none → loads (.restart p) 3 (straps.getD s.env.straps)) ∧
              ∃ t, exec (.restart p) s = .next t ∧ (cut ≠ none → t.mode = .powerFailHold) ∧
                t.env = { s.env with straps := straps.getD s.env.straps, coming := rest }) ∧
      (∀ k, ∃ t, exec (.powerOn { StartFinds.unchanged with cut := some k }) s = .next t ∧ t.mode = .powerFailHold) ∧
      ∀ (keys : List ObjKey) (new : Retained),
        exec (.powerOn StartFinds.unchanged) { s with mem := { s.mem with area := .complete keys new } } =
          exec (.powerOn StartFinds.unchanged)
            { s with
              mem :=
                { s.mem with
                  stored := keys.foldl (fun old key => putObject new old key) s.mem.stored, area := .settled } }) ∧
  ∀ (s : State) (p : PortId), s.Takes p 0x6A →
    (clearAllowed s = false → Answers (.clearAll p) p 0x6A s ⟨.state, .empty⟩) ∧
      (clearAllowed s = true ↔ s.bay.stopped = true ∨ ∀ z, 1 ≤ z → z ≤ 6 → s.zoneState z = .shutdown) ∧
      (∀ k straps rest, clearAllowed s = true → s.env.coming = ⟨straps, none, some k⟩ :: rest →
        ∃ t, exec (.clearAll p) s = .next t ∧ t.mode = .powerFailHold ∧
          t.env = { s.env with straps := straps.getD s.env.straps, coming := rest } ∧
          t.mem.marker = (if k = 0 then .erased else .present) ∧ t.mem.stored = Memory.formatted.stored ∧
          Told t p 0x6A ⟨.ok, .empty⟩) ∧
      (clearAllowed s = true → s.env.bayStop = false → (s.nextFinds.memory = none ∧ s.nextFinds.cut = none) →
        let env : Env :=
          { s.env with straps := s.nextFinds.straps.getD s.env.straps, coming := s.env.coming.tail }
        ∃ t, exec (.clearAll p) s = .next t ∧
          { t with ports := State.reset.ports } =
            { State.reset with env := env, freeCount := s.freeCount, pending := s.pending } ∧
          (∀ q : PortId, (t.port q).rate = rateOfStraps (env.straps.getD (portNumber q) 0)) ∧
          (∀ q : PortId, (t.port q).queue = [⟨.started, 0, .part, 0, 4, 1⟩]) ∧
          Told t p 0x6A ⟨.ok, .empty⟩)

/-- A write group that fails leaves the event's effect standing in the part and stops the bay with MEMORY_FAULT, which
arrives as any bay cause does: so for every command and every event whose own figures call for a write, in each of the
steps of the group, but for a start, a loss of power and the warning (R154, R193, R194). That the stop is part of the
same event is the model's reading: notes/assumptions/19.md; how a fate is given and the number 0 of the bay as the
subject of BAY_STOP, its choices: 12.md and 49.md. What PRODUCT SET leaves when its group fails, no point and no
station being in progress: its effect stands, the bay is STOPPED with MEMORY_FAULT, which a memory that works again
does not clear; the memory holds the group area incomplete (step 1), complete with the product torn (step 2) or
complete with the product written (step 3) (R154, R159, R193, R194). A start that cannot settle a complete group area
has MEMORY_FAULT too (the model's reading of R194: notes/assumptions/27.md). -/
def Obligations.WriteFailuresStopTheBay : Prop :=
  (∀ (c : Instr) (s u : State) (fate : Fate), s.Ready → s.unreadable = false → mayStart s c = false →
    c ≠ .powerFailWarning → fate ≠ .written → Makes c s u → groupKeys (image s) (image u) [] ≠ [] →
    Makes c { s with mem := { s.mem with fates := [fate] } } (bayCause .memoryFault 0 u)) ∧
  ∀ (s : State) (p : PortId) (n code alpha : Nat) (c : ProductClass), s.mode = .running → s.Quiet p →
    permitted s p 0x40 = true → 1 ≤ n → n ≤ 8 → classOfCode code = some c → alpha ≤ 2000 → (s.product n).cls = c →
    s.unreadable = false → s.mem.answers = true → s.bay.stopped = false → s.bay.causes = [] →
    let fails (fate : Fate) (memory : Memory → Prop) : Prop :=
      s.mem.fates = [fate] →
      ∃ t, exec (.productSet p n code alpha) s = .next t ∧ Told t p 0x40 ⟨.ok, .empty⟩ ∧
        t.product n = ⟨true, c, alpha⟩ ∧ t.bay.stopped = true ∧
        t.bay.causes = [⟨.memoryFault, 0, s.now, false⟩] ∧ t.memoryFault = true ∧ t.relayClosed = false ∧
        memory t.mem
    let still :=
      s.touched = [] ∧ InStep s ∧
        (∀ i, (s.point i).state ≠ .starting ∧ (s.point i).state ≠ .flowing ∧ (s.point i).state ≠ .held) ∧
        ∀ m, (s.station m).state = .idle ∨ (s.station m).state = .settling
    let group (m : Memory) : Prop :=
      ∃ new, m.area = .complete [.product n] new ∧ new.products.get? n = some ⟨true, c, alpha⟩
    fails .failsStep1 (fun m => m.stored.products = s.mem.stored.products ∧ (still → m.area = .incomplete)) ∧
      fails (.failsStep2 0)
        (fun m => still → group m ∧ m.stored = s.mem.stored ∧ m.bad = s.mem.bad ++ [.product n]) ∧
      fails .failsStep3
        (fun m => still → group m ∧ m.stored.products = s.mem.stored.products.set n ⟨true, c, alpha⟩ ∧ m.bad = []) ∧
      ∀ (keys : List ObjKey) (new : Retained) (fate : Fate), fate ≠ .written → s.mem.marker = .present →
        ∃ t, exec (.powerOn StartFinds.unchanged)
            { s with mem := { s.mem with area := .complete keys new, fates := [fate] } } = .next t ∧
          t.bay.stopped = true ∧ t.memoryFault = true ∧ t.relayClosed = false
end

