-- ==== Sys2Proof/Laws/State.lean ====
section
/-! SUPPORT. The small lemmas of the updates: one for each field of State and each update, and one for each reading of an
object after each update, so that no later proof unfolds a record update. -/

namespace Sys2Proof

/-! ## Banks -/

@[ext] theorem Bank.ext {α : Type} {n : Nat} {a b : Bank α n} (h : a.items = b.items) : a = b := by
  cases a; cases b; cases h; rfl

@[simp] theorem Bank.get?_set_same {α : Type} {n : Nat} (b : Bank α n) {k : Nat} (a : α) (h : 1 ≤ k ∧ k ≤ n) :
    (b.set k a).get? k = some a := by
  obtain ⟨l, hl⟩ := b
  cases k with
  | zero => omega
  | succ k => simp only [Bank.set, Bank.get?]; rw [List.getElem?_set_self]; omega

@[simp] theorem Bank.get?_set_ne {α : Type} {n : Nat} (b : Bank α n) {j k : Nat} (a : α) (h : j ≠ k) :
    (b.set k a).get? j = b.get? j := by
  cases k with
  | zero => rfl
  | succ k =>
    cases j with
    | zero => rfl
    | succ j => simp only [Bank.set, Bank.get?]; rw [List.getElem?_set_ne]; omega

@[simp] theorem Bank.getD_set_same {α : Type} {n : Nat} (b : Bank α n) {k : Nat} (a d : α) (h : 1 ≤ k ∧ k ≤ n) :
    (b.set k a).getD k d = a := by simp [Bank.getD, h]

@[simp] theorem Bank.getD_set_ne {α : Type} {n : Nat} (b : Bank α n) {j k : Nat} (a d : α) (h : j ≠ k) :
    (b.set k a).getD j d = b.getD j d := by simp [Bank.getD, h]

@[simp] theorem Bank.set_set {α : Type} {n : Nat} (b : Bank α n) (k : Nat) (x y : α) :
    (b.set k x).set k y = b.set k y := by
  cases k with
  | zero => rfl
  | succ k => ext1; simp [Bank.set]

theorem Bank.set_comm {α : Type} {n : Nat} (b : Bank α n) {j k : Nat} (x y : α) (h : j ≠ k) :
    (b.set j x).set k y = (b.set k y).set j x := by
  cases j with
  | zero => rfl
  | succ j =>
    cases k with
    | zero => rfl
    | succ k => ext1; simp only [Bank.set]; exact List.set_comm x y (by omega)

/-- Writing back what an object is changes nothing. -/
theorem Bank.set_getD {α : Type} {n : Nat} (b : Bank α n) (k : Nat) (d : α) (h : k ≤ n) : b.set k (b.getD k d) = b := by
  obtain ⟨l, hl⟩ := b
  cases k with
  | zero => rfl
  | succ k =>
    ext1
    simp only [Bank.set, Bank.getD, Bank.get?]
    rw [List.getElem?_eq_getElem (by omega)]
    simp

/-- Two banks of one size that give the same objects are equal. -/
theorem Bank.ext_get? {α : Type} {n : Nat} {a b : Bank α n} (h : ∀ k, 1 ≤ k → k ≤ n → a.get? k = b.get? k) : a = b := by
  obtain ⟨l, hl⟩ := a
  obtain ⟨m, hm⟩ := b
  ext1
  refine List.ext_getElem? fun i => ?_
  by_cases hi : i < n
  · exact h (i + 1) (by omega) (by omega)
  · simp only [] at *
    rw [List.getElem?_eq_none (by omega), List.getElem?_eq_none (by omega)]

/-- What holds of every object of a bank and of the new object holds of every object after the write. -/
theorem Bank.forall_set {α : Type} {n : Nat} {b : Bank α n} {P : α → Prop} (k : Nat) (a : α) (h : ∀ x ∈ b.items, P x)
    (ha : P a) : ∀ x ∈ (b.set k a).items, P x := by
  cases k with
  | zero => exact h
  | succ k =>
    intro x hx
    rcases List.mem_or_eq_of_mem_set hx with hx | rfl
    · exact h x hx
    · exact ha

@[simp] theorem Bank.get?_map {α β : Type} {n : Nat} (f : α → β) (b : Bank α n) (k : Nat) :
    (b.map f).get? k = (b.get? k).map f := by
  cases k <;> simp [Bank.map, Bank.get?]

@[simp] theorem Bank.get?_mapNumbered {α β : Type} {n : Nat} (f : Nat → α → β) (b : Bank α n) (k : Nat) :
    (b.mapNumbered f).get? k = (b.get? k).map (f k) := by
  cases k <;> simp [Bank.mapNumbered, Bank.get?]

/-- A map over a bank after a write is the write of the mapped object. -/
@[simp] theorem Bank.map_set {α β : Type} {n : Nat} (f : α → β) (b : Bank α n) (k : Nat) (a : α) :
    (b.set k a).map f = (b.map f).set k (f a) := by
  cases k with
  | zero => rfl
  | succ k => ext1; simp [Bank.set, Bank.map, List.map_set]

namespace Machine

/-! ## Fields after updates -/

@[simp] theorem State.setTank_mode (s : State) (t : Nat) (k : Tank) : (s.setTank t k).mode = s.mode := rfl
@[simp] theorem State.setTank_unreadable (s : State) (t : Nat) (k : Tank) :
    (s.setTank t k).unreadable = s.unreadable := rfl
@[simp] theorem State.setTank_env (s : State) (t : Nat) (k : Tank) : (s.setTank t k).env = s.env := rfl
@[simp] theorem State.setTank_roles (s : State) (t : Nat) (k : Tank) : (s.setTank t k).roles = s.roles := rfl
@[simp] theorem State.setTank_queueK (s : State) (t : Nat) (k : Tank) : (s.setTank t k).queueK = s.queueK := rfl
@[simp] theorem State.setTank_ports (s : State) (t : Nat) (k : Tank) : (s.setTank t k).ports = s.ports := rfl
@[simp] theorem State.setTank_clock (s : State) (t : Nat) (k : Tank) : (s.setTank t k).clock = s.clock := rfl
@[simp] theorem State.setTank_products (s : State) (t : Nat) (k : Tank) : (s.setTank t k).products = s.products := rfl
@[simp] theorem State.setTank_tanks (s : State) (t : Nat) (k : Tank) : (s.setTank t k).tanks = s.tanks.set t k := rfl
@[simp] theorem State.setTank_points (s : State) (t : Nat) (k : Tank) : (s.setTank t k).points = s.points := rfl
@[simp] theorem State.setTank_islands (s : State) (t : Nat) (k : Tank) : (s.setTank t k).islands = s.islands := rfl
@[simp] theorem State.setTank_accounts (s : State) (t : Nat) (k : Tank) : (s.setTank t k).accounts = s.accounts := rfl
@[simp] theorem State.setTank_stations (s : State) (t : Nat) (k : Tank) : (s.setTank t k).stations = s.stations := rfl
@[simp] theorem State.setTank_probeLast (s : State) (t : Nat) (k : Tank) :
    (s.setTank t k).probeLast = s.probeLast := rfl
@[simp] theorem State.setTank_zones (s : State) (t : Nat) (k : Tank) : (s.setTank t k).zones = s.zones := rfl
@[simp] theorem State.setTank_overfill (s : State) (t : Nat) (k : Tank) : (s.setTank t k).overfill = s.overfill := rfl
@[simp] theorem State.setTank_bay (s : State) (t : Nat) (k : Tank) : (s.setTank t k).bay = s.bay := rfl
@[simp] theorem State.setTank_bypasses (s : State) (t : Nat) (k : Tank) : (s.setTank t k).bypasses = s.bypasses := rfl
@[simp] theorem State.setTank_log (s : State) (t : Nat) (k : Tank) : (s.setTank t k).log = s.log := rfl
@[simp] theorem State.setTank_portLog (s : State) (t : Nat) (k : Tank) : (s.setTank t k).portLog = s.portLog := rfl
@[simp] theorem State.setTank_skipped (s : State) (t : Nat) (k : Tank) : (s.setTank t k).skipped = s.skipped := rfl
@[simp] theorem State.setTank_inflight (s : State) (t : Nat) (k : Tank) : (s.setTank t k).inflight = s.inflight := rfl
@[simp] theorem State.setTank_mem (s : State) (t : Nat) (k : Tank) : (s.setTank t k).mem = s.mem := rfl
@[simp] theorem State.setTank_touched (s : State) (t : Nat) (k : Tank) : (s.setTank t k).touched = s.touched := rfl
@[simp] theorem State.setTank_freeCount (s : State) (t : Nat) (k : Tank) :
    (s.setTank t k).freeCount = s.freeCount := rfl
@[simp] theorem State.setTank_pending (s : State) (t : Nat) (k : Tank) : (s.setTank t k).pending = s.pending := rfl

@[simp] theorem State.setPoint_mode (s : State) (i : Nat) (x : Point) : (s.setPoint i x).mode = s.mode := rfl
@[simp] theorem State.setPoint_unreadable (s : State) (i : Nat) (x : Point) :
    (s.setPoint i x).unreadable = s.unreadable := rfl
@[simp] theorem State.setPoint_env (s : State) (i : Nat) (x : Point) : (s.setPoint i x).env = s.env := rfl
@[simp] theorem State.setPoint_roles (s : State) (i : Nat) (x : Point) : (s.setPoint i x).roles = s.roles := rfl
@[simp] theorem State.setPoint_queueK (s : State) (i : Nat) (x : Point) : (s.setPoint i x).queueK = s.queueK := rfl
@[simp] theorem State.setPoint_ports (s : State) (i : Nat) (x : Point) : (s.setPoint i x).ports = s.ports := rfl
@[simp] theorem State.setPoint_clock (s : State) (i : Nat) (x : Point) : (s.setPoint i x).clock = s.clock := rfl
@[simp] theorem State.setPoint_products (s : State) (i : Nat) (x : Point) :
    (s.setPoint i x).products = s.products := rfl
@[simp] theorem State.setPoint_tanks (s : State) (i : Nat) (x : Point) : (s.setPoint i x).tanks = s.tanks := rfl
@[simp] theorem State.setPoint_points (s : State) (i : Nat) (x : Point) :
    (s.setPoint i x).points = s.points.set i x := rfl
@[simp] theorem State.setPoint_islands (s : State) (i : Nat) (x : Point) : (s.setPoint i x).islands = s.islands := rfl
@[simp] theorem State.setPoint_accounts (s : State) (i : Nat) (x : Point) :
    (s.setPoint i x).accounts = s.accounts := rfl
@[simp] theorem State.setPoint_stations (s : State) (i : Nat) (x : Point) :
    (s.setPoint i x).stations = s.stations := rfl
@[simp] theorem State.setPoint_probeLast (s : State) (i : Nat) (x : Point) :
    (s.setPoint i x).probeLast = s.probeLast := rfl
@[simp] theorem State.setPoint_zones (s : State) (i : Nat) (x : Point) : (s.setPoint i x).zones = s.zones := rfl
@[simp] theorem State.setPoint_overfill (s : State) (i : Nat) (x : Point) :
    (s.setPoint i x).overfill = s.overfill := rfl
@[simp] theorem State.setPoint_bay (s : State) (i : Nat) (x : Point) : (s.setPoint i x).bay = s.bay := rfl
@[simp] theorem State.setPoint_bypasses (s : State) (i : Nat) (x : Point) :
    (s.setPoint i x).bypasses = s.bypasses := rfl
@[simp] theorem State.setPoint_log (s : State) (i : Nat) (x : Point) : (s.setPoint i x).log = s.log := rfl
@[simp] theorem State.setPoint_portLog (s : State) (i : Nat) (x : Point) : (s.setPoint i x).portLog = s.portLog := rfl
@[simp] theorem State.setPoint_skipped (s : State) (i : Nat) (x : Point) : (s.setPoint i x).skipped = s.skipped := rfl
@[simp] theorem State.setPoint_inflight (s : State) (i : Nat) (x : Point) :
    (s.setPoint i x).inflight = s.inflight := rfl
@[simp] theorem State.setPoint_mem (s : State) (i : Nat) (x : Point) : (s.setPoint i x).mem = s.mem := rfl
@[simp] theorem State.setPoint_touched (s : State) (i : Nat) (x : Point) : (s.setPoint i x).touched = s.touched := rfl
@[simp] theorem State.setPoint_freeCount (s : State) (i : Nat) (x : Point) :
    (s.setPoint i x).freeCount = s.freeCount := rfl
@[simp] theorem State.setPoint_pending (s : State) (i : Nat) (x : Point) : (s.setPoint i x).pending = s.pending := rfl

@[simp] theorem State.setIsland_mode (s : State) (i : Nat) (x : Island) : (s.setIsland i x).mode = s.mode := rfl
@[simp] theorem State.setIsland_unreadable (s : State) (i : Nat) (x : Island) :
    (s.setIsland i x).unreadable = s.unreadable := rfl
@[simp] theorem State.setIsland_env (s : State) (i : Nat) (x : Island) : (s.setIsland i x).env = s.env := rfl
@[simp] theorem State.setIsland_roles (s : State) (i : Nat) (x : Island) : (s.setIsland i x).roles = s.roles := rfl
@[simp] theorem State.setIsland_queueK (s : State) (i : Nat) (x : Island) : (s.setIsland i x).queueK = s.queueK := rfl
@[simp] theorem State.setIsland_ports (s : State) (i : Nat) (x : Island) : (s.setIsland i x).ports = s.ports := rfl
@[simp] theorem State.setIsland_clock (s : State) (i : Nat) (x : Island) : (s.setIsland i x).clock = s.clock := rfl
@[simp] theorem State.setIsland_products (s : State) (i : Nat) (x : Island) :
    (s.setIsland i x).products = s.products := rfl
@[simp] theorem State.setIsland_tanks (s : State) (i : Nat) (x : Island) : (s.setIsland i x).tanks = s.tanks := rfl
@[simp] theorem State.setIsland_points (s : State) (i : Nat) (x : Island) : (s.setIsland i x).points = s.points := rfl
@[simp] theorem State.setIsland_islands (s : State) (i : Nat) (x : Island) :
    (s.setIsland i x).islands = s.islands.set i x := rfl
@[simp] theorem State.setIsland_accounts (s : State) (i : Nat) (x : Island) :
    (s.setIsland i x).accounts = s.accounts := rfl
@[simp] theorem State.setIsland_stations (s : State) (i : Nat) (x : Island) :
    (s.setIsland i x).stations = s.stations := rfl
@[simp] theorem State.setIsland_probeLast (s : State) (i : Nat) (x : Island) :
    (s.setIsland i x).probeLast = s.probeLast := rfl
@[simp] theorem State.setIsland_zones (s : State) (i : Nat) (x : Island) : (s.setIsland i x).zones = s.zones := rfl
@[simp] theorem State.setIsland_overfill (s : State) (i : Nat) (x : Island) :
    (s.setIsland i x).overfill = s.overfill := rfl
@[simp] theorem State.setIsland_bay (s : State) (i : Nat) (x : Island) : (s.setIsland i x).bay = s.bay := rfl
@[simp] theorem State.setIsland_bypasses (s : State) (i : Nat) (x : Island) :
    (s.setIsland i x).bypasses = s.bypasses := rfl
@[simp] theorem State.setIsland_log (s : State) (i : Nat) (x : Island) : (s.setIsland i x).log = s.log := rfl
@[simp] theorem State.setIsland_portLog (s : State) (i : Nat) (x : Island) :
    (s.setIsland i x).portLog = s.portLog := rfl
@[simp] theorem State.setIsland_skipped (s : State) (i : Nat) (x : Island) :
    (s.setIsland i x).skipped = s.skipped := rfl
@[simp] theorem State.setIsland_inflight (s : State) (i : Nat) (x : Island) :
    (s.setIsland i x).inflight = s.inflight := rfl
@[simp] theorem State.setIsland_mem (s : State) (i : Nat) (x : Island) : (s.setIsland i x).mem = s.mem := rfl
@[simp] theorem State.setIsland_touched (s : State) (i : Nat) (x : Island) :
    (s.setIsland i x).touched = s.touched := rfl
@[simp] theorem State.setIsland_freeCount (s : State) (i : Nat) (x : Island) :
    (s.setIsland i x).freeCount = s.freeCount := rfl
@[simp] theorem State.setIsland_pending (s : State) (i : Nat) (x : Island) :
    (s.setIsland i x).pending = s.pending := rfl

@[simp] theorem State.setStation_mode (s : State) (n : Nat) (x : Station) : (s.setStation n x).mode = s.mode := rfl
@[simp] theorem State.setStation_unreadable (s : State) (n : Nat) (x : Station) :
    (s.setStation n x).unreadable = s.unreadable := rfl
@[simp] theorem State.setStation_env (s : State) (n : Nat) (x : Station) : (s.setStation n x).env = s.env := rfl
@[simp] theorem State.setStation_roles (s : State) (n : Nat) (x : Station) : (s.setStation n x).roles = s.roles := rfl
@[simp] theorem State.setStation_queueK (s : State) (n : Nat) (x : Station) :
    (s.setStation n x).queueK = s.queueK := rfl
@[simp] theorem State.setStation_ports (s : State) (n : Nat) (x : Station) : (s.setStation n x).ports = s.ports := rfl
@[simp] theorem State.setStation_clock (s : State) (n : Nat) (x : Station) : (s.setStation n x).clock = s.clock := rfl
@[simp] theorem State.setStation_products (s : State) (n : Nat) (x : Station) :
    (s.setStation n x).products = s.products := rfl
@[simp] theorem State.setStation_tanks (s : State) (n : Nat) (x : Station) : (s.setStation n x).tanks = s.tanks := rfl
@[simp] theorem State.setStation_points (s : State) (n : Nat) (x : Station) :
    (s.setStation n x).points = s.points := rfl
@[simp] theorem State.setStation_islands (s : State) (n : Nat) (x : Station) :
    (s.setStation n x).islands = s.islands := rfl
@[simp] theorem State.setStation_accounts (s : State) (n : Nat) (x : Station) :
    (s.setStation n x).accounts = s.accounts := rfl
@[simp] theorem State.setStation_stations (s : State) (n : Nat) (x : Station) :
    (s.setStation n x).stations = s.stations.set n x := rfl
@[simp] theorem State.setStation_probeLast (s : State) (n : Nat) (x : Station) :
    (s.setStation n x).probeLast = s.probeLast := rfl
@[simp] theorem State.setStation_zones (s : State) (n : Nat) (x : Station) : (s.setStation n x).zones = s.zones := rfl
@[simp] theorem State.setStation_overfill (s : State) (n : Nat) (x : Station) :
    (s.setStation n x).overfill = s.overfill := rfl
@[simp] theorem State.setStation_bay (s : State) (n : Nat) (x : Station) : (s.setStation n x).bay = s.bay := rfl
@[simp] theorem State.setStation_bypasses (s : State) (n : Nat) (x : Station) :
    (s.setStation n x).bypasses = s.bypasses := rfl
@[simp] theorem State.setStation_log (s : State) (n : Nat) (x : Station) : (s.setStation n x).log = s.log := rfl
@[simp] theorem State.setStation_portLog (s : State) (n : Nat) (x : Station) :
    (s.setStation n x).portLog = s.portLog := rfl
@[simp] theorem State.setStation_skipped (s : State) (n : Nat) (x : Station) :
    (s.setStation n x).skipped = s.skipped := rfl
@[simp] theorem State.setStation_inflight (s : State) (n : Nat) (x : Station) :
    (s.setStation n x).inflight = s.inflight := rfl
@[simp] theorem State.setStation_mem (s : State) (n : Nat) (x : Station) : (s.setStation n x).mem = s.mem := rfl
@[simp] theorem State.setStation_touched (s : State) (n : Nat) (x : Station) :
    (s.setStation n x).touched = s.touched := rfl
@[simp] theorem State.setStation_freeCount (s : State) (n : Nat) (x : Station) :
    (s.setStation n x).freeCount = s.freeCount := rfl
@[simp] theorem State.setStation_pending (s : State) (n : Nat) (x : Station) :
    (s.setStation n x).pending = s.pending := rfl

@[simp] theorem State.setZone_mode (s : State) (z : Nat) (x : Zone) : (s.setZone z x).mode = s.mode := rfl
@[simp] theorem State.setZone_unreadable (s : State) (z : Nat) (x : Zone) :
    (s.setZone z x).unreadable = s.unreadable := rfl
@[simp] theorem State.setZone_env (s : State) (z : Nat) (x : Zone) : (s.setZone z x).env = s.env := rfl
@[simp] theorem State.setZone_roles (s : State) (z : Nat) (x : Zone) : (s.setZone z x).roles = s.roles := rfl
@[simp] theorem State.setZone_queueK (s : State) (z : Nat) (x : Zone) : (s.setZone z x).queueK = s.queueK := rfl
@[simp] theorem State.setZone_ports (s : State) (z : Nat) (x : Zone) : (s.setZone z x).ports = s.ports := rfl
@[simp] theorem State.setZone_clock (s : State) (z : Nat) (x : Zone) : (s.setZone z x).clock = s.clock := rfl
@[simp] theorem State.setZone_products (s : State) (z : Nat) (x : Zone) : (s.setZone z x).products = s.products := rfl
@[simp] theorem State.setZone_tanks (s : State) (z : Nat) (x : Zone) : (s.setZone z x).tanks = s.tanks := rfl
@[simp] theorem State.setZone_points (s : State) (z : Nat) (x : Zone) : (s.setZone z x).points = s.points := rfl
@[simp] theorem State.setZone_islands (s : State) (z : Nat) (x : Zone) : (s.setZone z x).islands = s.islands := rfl
@[simp] theorem State.setZone_accounts (s : State) (z : Nat) (x : Zone) : (s.setZone z x).accounts = s.accounts := rfl
@[simp] theorem State.setZone_stations (s : State) (z : Nat) (x : Zone) : (s.setZone z x).stations = s.stations := rfl
@[simp] theorem State.setZone_probeLast (s : State) (z : Nat) (x : Zone) :
    (s.setZone z x).probeLast = s.probeLast := rfl
@[simp] theorem State.setZone_zones (s : State) (z : Nat) (x : Zone) : (s.setZone z x).zones = s.zones.set z x := rfl
@[simp] theorem State.setZone_overfill (s : State) (z : Nat) (x : Zone) : (s.setZone z x).overfill = s.overfill := rfl
@[simp] theorem State.setZone_bay (s : State) (z : Nat) (x : Zone) : (s.setZone z x).bay = s.bay := rfl
@[simp] theorem State.setZone_bypasses (s : State) (z : Nat) (x : Zone) : (s.setZone z x).bypasses = s.bypasses := rfl
@[simp] theorem State.setZone_log (s : State) (z : Nat) (x : Zone) : (s.setZone z x).log = s.log := rfl
@[simp] theorem State.setZone_portLog (s : State) (z : Nat) (x : Zone) : (s.setZone z x).portLog = s.portLog := rfl
@[simp] theorem State.setZone_skipped (s : State) (z : Nat) (x : Zone) : (s.setZone z x).skipped = s.skipped := rfl
@[simp] theorem State.setZone_inflight (s : State) (z : Nat) (x : Zone) : (s.setZone z x).inflight = s.inflight := rfl
@[simp] theorem State.setZone_mem (s : State) (z : Nat) (x : Zone) : (s.setZone z x).mem = s.mem := rfl
@[simp] theorem State.setZone_touched (s : State) (z : Nat) (x : Zone) : (s.setZone z x).touched = s.touched := rfl
@[simp] theorem State.setZone_freeCount (s : State) (z : Nat) (x : Zone) :
    (s.setZone z x).freeCount = s.freeCount := rfl
@[simp] theorem State.setZone_pending (s : State) (z : Nat) (x : Zone) : (s.setZone z x).pending = s.pending := rfl

@[simp] theorem State.setPort_mode (s : State) (p : PortId) (x : Port) : (s.setPort p x).mode = s.mode := rfl
@[simp] theorem State.setPort_unreadable (s : State) (p : PortId) (x : Port) :
    (s.setPort p x).unreadable = s.unreadable := rfl
@[simp] theorem State.setPort_env (s : State) (p : PortId) (x : Port) : (s.setPort p x).env = s.env := rfl
@[simp] theorem State.setPort_roles (s : State) (p : PortId) (x : Port) : (s.setPort p x).roles = s.roles := rfl
@[simp] theorem State.setPort_queueK (s : State) (p : PortId) (x : Port) : (s.setPort p x).queueK = s.queueK := rfl
@[simp] theorem State.setPort_ports (s : State) (p : PortId) (x : Port) :
    (s.setPort p x).ports = s.ports.set (portNumber p) x := rfl
@[simp] theorem State.setPort_clock (s : State) (p : PortId) (x : Port) : (s.setPort p x).clock = s.clock := rfl
@[simp] theorem State.setPort_products (s : State) (p : PortId) (x : Port) :
    (s.setPort p x).products = s.products := rfl
@[simp] theorem State.setPort_tanks (s : State) (p : PortId) (x : Port) : (s.setPort p x).tanks = s.tanks := rfl
@[simp] theorem State.setPort_points (s : State) (p : PortId) (x : Port) : (s.setPort p x).points = s.points := rfl
@[simp] theorem State.setPort_islands (s : State) (p : PortId) (x : Port) : (s.setPort p x).islands = s.islands := rfl
@[simp] theorem State.setPort_accounts (s : State) (p : PortId) (x : Port) :
    (s.setPort p x).accounts = s.accounts := rfl
@[simp] theorem State.setPort_stations (s : State) (p : PortId) (x : Port) :
    (s.setPort p x).stations = s.stations := rfl
@[simp] theorem State.setPort_probeLast (s : State) (p : PortId) (x : Port) :
    (s.setPort p x).probeLast = s.probeLast := rfl
@[simp] theorem State.setPort_zones (s : State) (p : PortId) (x : Port) : (s.setPort p x).zones = s.zones := rfl
@[simp] theorem State.setPort_overfill (s : State) (p : PortId) (x : Port) :
    (s.setPort p x).overfill = s.overfill := rfl
@[simp] theorem State.setPort_bay (s : State) (p : PortId) (x : Port) : (s.setPort p x).bay = s.bay := rfl
@[simp] theorem State.setPort_bypasses (s : State) (p : PortId) (x : Port) :
    (s.setPort p x).bypasses = s.bypasses := rfl
@[simp] theorem State.setPort_log (s : State) (p : PortId) (x : Port) : (s.setPort p x).log = s.log := rfl
@[simp] theorem State.setPort_portLog (s : State) (p : PortId) (x : Port) : (s.setPort p x).portLog = s.portLog := rfl
@[simp] theorem State.setPort_skipped (s : State) (p : PortId) (x : Port) : (s.setPort p x).skipped = s.skipped := rfl
@[simp] theorem State.setPort_inflight (s : State) (p : PortId) (x : Port) :
    (s.setPort p x).inflight = s.inflight := rfl
@[simp] theorem State.setPort_mem (s : State) (p : PortId) (x : Port) : (s.setPort p x).mem = s.mem := rfl
@[simp] theorem State.setPort_touched (s : State) (p : PortId) (x : Port) : (s.setPort p x).touched = s.touched := rfl
@[simp] theorem State.setPort_freeCount (s : State) (p : PortId) (x : Port) :
    (s.setPort p x).freeCount = s.freeCount := rfl
@[simp] theorem State.setPort_pending (s : State) (p : PortId) (x : Port) : (s.setPort p x).pending = s.pending := rfl

@[simp] theorem State.setProduct_mode (s : State) (n : Nat) (x : Product) : (s.setProduct n x).mode = s.mode := rfl
@[simp] theorem State.setProduct_unreadable (s : State) (n : Nat) (x : Product) :
    (s.setProduct n x).unreadable = s.unreadable := rfl
@[simp] theorem State.setProduct_env (s : State) (n : Nat) (x : Product) : (s.setProduct n x).env = s.env := rfl
@[simp] theorem State.setProduct_roles (s : State) (n : Nat) (x : Product) : (s.setProduct n x).roles = s.roles := rfl
@[simp] theorem State.setProduct_queueK (s : State) (n : Nat) (x : Product) :
    (s.setProduct n x).queueK = s.queueK := rfl
@[simp] theorem State.setProduct_ports (s : State) (n : Nat) (x : Product) : (s.setProduct n x).ports = s.ports := rfl
@[simp] theorem State.setProduct_clock (s : State) (n : Nat) (x : Product) : (s.setProduct n x).clock = s.clock := rfl
@[simp] theorem State.setProduct_products (s : State) (n : Nat) (x : Product) :
    (s.setProduct n x).products = s.products.set n x := rfl
@[simp] theorem State.setProduct_tanks (s : State) (n : Nat) (x : Product) : (s.setProduct n x).tanks = s.tanks := rfl
@[simp] theorem State.setProduct_points (s : State) (n : Nat) (x : Product) :
    (s.setProduct n x).points = s.points := rfl
@[simp] theorem State.setProduct_islands (s : State) (n : Nat) (x : Product) :
    (s.setProduct n x).islands = s.islands := rfl
@[simp] theorem State.setProduct_accounts (s : State) (n : Nat) (x : Product) :
    (s.setProduct n x).accounts = s.accounts := rfl
@[simp] theorem State.setProduct_stations (s : State) (n : Nat) (x : Product) :
    (s.setProduct n x).stations = s.stations := rfl
@[simp] theorem State.setProduct_probeLast (s : State) (n : Nat) (x : Product) :
    (s.setProduct n x).probeLast = s.probeLast := rfl
@[simp] theorem State.setProduct_zones (s : State) (n : Nat) (x : Product) : (s.setProduct n x).zones = s.zones := rfl
@[simp] theorem State.setProduct_overfill (s : State) (n : Nat) (x : Product) :
    (s.setProduct n x).overfill = s.overfill := rfl
@[simp] theorem State.setProduct_bay (s : State) (n : Nat) (x : Product) : (s.setProduct n x).bay = s.bay := rfl
@[simp] theorem State.setProduct_bypasses (s : State) (n : Nat) (x : Product) :
    (s.setProduct n x).bypasses = s.bypasses := rfl
@[simp] theorem State.setProduct_log (s : State) (n : Nat) (x : Product) : (s.setProduct n x).log = s.log := rfl
@[simp] theorem State.setProduct_portLog (s : State) (n : Nat) (x : Product) :
    (s.setProduct n x).portLog = s.portLog := rfl
@[simp] theorem State.setProduct_skipped (s : State) (n : Nat) (x : Product) :
    (s.setProduct n x).skipped = s.skipped := rfl
@[simp] theorem State.setProduct_inflight (s : State) (n : Nat) (x : Product) :
    (s.setProduct n x).inflight = s.inflight := rfl
@[simp] theorem State.setProduct_mem (s : State) (n : Nat) (x : Product) : (s.setProduct n x).mem = s.mem := rfl
@[simp] theorem State.setProduct_touched (s : State) (n : Nat) (x : Product) :
    (s.setProduct n x).touched = s.touched := rfl
@[simp] theorem State.setProduct_freeCount (s : State) (n : Nat) (x : Product) :
    (s.setProduct n x).freeCount = s.freeCount := rfl
@[simp] theorem State.setProduct_pending (s : State) (n : Nat) (x : Product) :
    (s.setProduct n x).pending = s.pending := rfl

@[simp] theorem State.setEntry_mode (s : State) (n : Nat) (x : Option Entry) : (s.setEntry n x).mode = s.mode := rfl
@[simp] theorem State.setEntry_unreadable (s : State) (n : Nat) (x : Option Entry) :
    (s.setEntry n x).unreadable = s.unreadable := rfl
@[simp] theorem State.setEntry_env (s : State) (n : Nat) (x : Option Entry) : (s.setEntry n x).env = s.env := rfl
@[simp] theorem State.setEntry_roles (s : State) (n : Nat) (x : Option Entry) : (s.setEntry n x).roles = s.roles := rfl
@[simp] theorem State.setEntry_queueK (s : State) (n : Nat) (x : Option Entry) :
    (s.setEntry n x).queueK = s.queueK := rfl
@[simp] theorem State.setEntry_ports (s : State) (n : Nat) (x : Option Entry) : (s.setEntry n x).ports = s.ports := rfl
@[simp] theorem State.setEntry_clock (s : State) (n : Nat) (x : Option Entry) : (s.setEntry n x).clock = s.clock := rfl
@[simp] theorem State.setEntry_products (s : State) (n : Nat) (x : Option Entry) :
    (s.setEntry n x).products = s.products := rfl
@[simp] theorem State.setEntry_tanks (s : State) (n : Nat) (x : Option Entry) : (s.setEntry n x).tanks = s.tanks := rfl
@[simp] theorem State.setEntry_points (s : State) (n : Nat) (x : Option Entry) :
    (s.setEntry n x).points = s.points := rfl
@[simp] theorem State.setEntry_islands (s : State) (n : Nat) (x : Option Entry) :
    (s.setEntry n x).islands = s.islands := rfl
@[simp] theorem State.setEntry_accounts (s : State) (n : Nat) (x : Option Entry) :
    (s.setEntry n x).accounts = s.accounts := rfl
@[simp] theorem State.setEntry_stations (s : State) (n : Nat) (x : Option Entry) :
    (s.setEntry n x).stations = s.stations := rfl
@[simp] theorem State.setEntry_probeLast (s : State) (n : Nat) (x : Option Entry) :
    (s.setEntry n x).probeLast = s.probeLast := rfl
@[simp] theorem State.setEntry_zones (s : State) (n : Nat) (x : Option Entry) : (s.setEntry n x).zones = s.zones := rfl
@[simp] theorem State.setEntry_overfill (s : State) (n : Nat) (x : Option Entry) :
    (s.setEntry n x).overfill = s.overfill := rfl
@[simp] theorem State.setEntry_bay (s : State) (n : Nat) (x : Option Entry) : (s.setEntry n x).bay = s.bay := rfl
@[simp] theorem State.setEntry_bypasses (s : State) (n : Nat) (x : Option Entry) :
    (s.setEntry n x).bypasses = s.bypasses := rfl
@[simp] theorem State.setEntry_log (s : State) (n : Nat) (x : Option Entry) : (s.setEntry n x).log = s.log := rfl
@[simp] theorem State.setEntry_portLog (s : State) (n : Nat) (x : Option Entry) :
    (s.setEntry n x).portLog = s.portLog := rfl
@[simp] theorem State.setEntry_skipped (s : State) (n : Nat) (x : Option Entry) :
    (s.setEntry n x).skipped = s.skipped := rfl
@[simp] theorem State.setEntry_inflight (s : State) (n : Nat) (x : Option Entry) :
    (s.setEntry n x).inflight = s.inflight.set n x := rfl
@[simp] theorem State.setEntry_mem (s : State) (n : Nat) (x : Option Entry) : (s.setEntry n x).mem = s.mem := rfl
@[simp] theorem State.setEntry_touched (s : State) (n : Nat) (x : Option Entry) :
    (s.setEntry n x).touched = s.touched := rfl
@[simp] theorem State.setEntry_freeCount (s : State) (n : Nat) (x : Option Entry) :
    (s.setEntry n x).freeCount = s.freeCount := rfl
@[simp] theorem State.setEntry_pending (s : State) (n : Nat) (x : Option Entry) :
    (s.setEntry n x).pending = s.pending := rfl

@[simp] theorem State.setLogOf_mode (s : State) (p : PortId) (x : PortLog) : (s.setLogOf p x).mode = s.mode := rfl
@[simp] theorem State.setLogOf_unreadable (s : State) (p : PortId) (x : PortLog) :
    (s.setLogOf p x).unreadable = s.unreadable := rfl
@[simp] theorem State.setLogOf_env (s : State) (p : PortId) (x : PortLog) : (s.setLogOf p x).env = s.env := rfl
@[simp] theorem State.setLogOf_roles (s : State) (p : PortId) (x : PortLog) : (s.setLogOf p x).roles = s.roles := rfl
@[simp] theorem State.setLogOf_queueK (s : State) (p : PortId) (x : PortLog) : (s.setLogOf p x).queueK = s.queueK := rfl
@[simp] theorem State.setLogOf_ports (s : State) (p : PortId) (x : PortLog) : (s.setLogOf p x).ports = s.ports := rfl
@[simp] theorem State.setLogOf_clock (s : State) (p : PortId) (x : PortLog) : (s.setLogOf p x).clock = s.clock := rfl
@[simp] theorem State.setLogOf_products (s : State) (p : PortId) (x : PortLog) :
    (s.setLogOf p x).products = s.products := rfl
@[simp] theorem State.setLogOf_tanks (s : State) (p : PortId) (x : PortLog) : (s.setLogOf p x).tanks = s.tanks := rfl
@[simp] theorem State.setLogOf_points (s : State) (p : PortId) (x : PortLog) : (s.setLogOf p x).points = s.points := rfl
@[simp] theorem State.setLogOf_islands (s : State) (p : PortId) (x : PortLog) :
    (s.setLogOf p x).islands = s.islands := rfl
@[simp] theorem State.setLogOf_accounts (s : State) (p : PortId) (x : PortLog) :
    (s.setLogOf p x).accounts = s.accounts := rfl
@[simp] theorem State.setLogOf_stations (s : State) (p : PortId) (x : PortLog) :
    (s.setLogOf p x).stations = s.stations := rfl
@[simp] theorem State.setLogOf_probeLast (s : State) (p : PortId) (x : PortLog) :
    (s.setLogOf p x).probeLast = s.probeLast := rfl
@[simp] theorem State.setLogOf_zones (s : State) (p : PortId) (x : PortLog) : (s.setLogOf p x).zones = s.zones := rfl
@[simp] theorem State.setLogOf_overfill (s : State) (p : PortId) (x : PortLog) :
    (s.setLogOf p x).overfill = s.overfill := rfl
@[simp] theorem State.setLogOf_bay (s : State) (p : PortId) (x : PortLog) : (s.setLogOf p x).bay = s.bay := rfl
@[simp] theorem State.setLogOf_bypasses (s : State) (p : PortId) (x : PortLog) :
    (s.setLogOf p x).bypasses = s.bypasses := rfl
@[simp] theorem State.setLogOf_log (s : State) (p : PortId) (x : PortLog) : (s.setLogOf p x).log = s.log := rfl
@[simp] theorem State.setLogOf_portLog (s : State) (p : PortId) (x : PortLog) :
    (s.setLogOf p x).portLog = s.portLog.set (portNumber p) x := rfl
@[simp] theorem State.setLogOf_skipped (s : State) (p : PortId) (x : PortLog) :
    (s.setLogOf p x).skipped = s.skipped := rfl
@[simp] theorem State.setLogOf_inflight (s : State) (p : PortId) (x : PortLog) :
    (s.setLogOf p x).inflight = s.inflight := rfl
@[simp] theorem State.setLogOf_mem (s : State) (p : PortId) (x : PortLog) : (s.setLogOf p x).mem = s.mem := rfl
@[simp] theorem State.setLogOf_touched (s : State) (p : PortId) (x : PortLog) :
    (s.setLogOf p x).touched = s.touched := rfl
@[simp] theorem State.setLogOf_freeCount (s : State) (p : PortId) (x : PortLog) :
    (s.setLogOf p x).freeCount = s.freeCount := rfl
@[simp] theorem State.setLogOf_pending (s : State) (p : PortId) (x : PortLog) :
    (s.setLogOf p x).pending = s.pending := rfl

@[simp] theorem State.setSkipped_mode (s : State) (p : PortId) (n : Nat) : (s.setSkipped p n).mode = s.mode := rfl
@[simp] theorem State.setSkipped_unreadable (s : State) (p : PortId) (n : Nat) :
    (s.setSkipped p n).unreadable = s.unreadable := rfl
@[simp] theorem State.setSkipped_env (s : State) (p : PortId) (n : Nat) : (s.setSkipped p n).env = s.env := rfl
@[simp] theorem State.setSkipped_roles (s : State) (p : PortId) (n : Nat) : (s.setSkipped p n).roles = s.roles := rfl
@[simp] theorem State.setSkipped_queueK (s : State) (p : PortId) (n : Nat) : (s.setSkipped p n).queueK = s.queueK := rfl
@[simp] theorem State.setSkipped_ports (s : State) (p : PortId) (n : Nat) : (s.setSkipped p n).ports = s.ports := rfl
@[simp] theorem State.setSkipped_clock (s : State) (p : PortId) (n : Nat) : (s.setSkipped p n).clock = s.clock := rfl
@[simp] theorem State.setSkipped_products (s : State) (p : PortId) (n : Nat) :
    (s.setSkipped p n).products = s.products := rfl
@[simp] theorem State.setSkipped_tanks (s : State) (p : PortId) (n : Nat) : (s.setSkipped p n).tanks = s.tanks := rfl
@[simp] theorem State.setSkipped_points (s : State) (p : PortId) (n : Nat) : (s.setSkipped p n).points = s.points := rfl
@[simp] theorem State.setSkipped_islands (s : State) (p : PortId) (n : Nat) :
    (s.setSkipped p n).islands = s.islands := rfl
@[simp] theorem State.setSkipped_accounts (s : State) (p : PortId) (n : Nat) :
    (s.setSkipped p n).accounts = s.accounts := rfl
@[simp] theorem State.setSkipped_stations (s : State) (p : PortId) (n : Nat) :
    (s.setSkipped p n).stations = s.stations := rfl
@[simp] theorem State.setSkipped_probeLast (s : State) (p : PortId) (n : Nat) :
    (s.setSkipped p n).probeLast = s.probeLast := rfl
@[simp] theorem State.setSkipped_zones (s : State) (p : PortId) (n : Nat) : (s.setSkipped p n).zones = s.zones := rfl
@[simp] theorem State.setSkipped_overfill (s : State) (p : PortId) (n : Nat) :
    (s.setSkipped p n).overfill = s.overfill := rfl
@[simp] theorem State.setSkipped_bay (s : State) (p : PortId) (n : Nat) : (s.setSkipped p n).bay = s.bay := rfl
@[simp] theorem State.setSkipped_bypasses (s : State) (p : PortId) (n : Nat) :
    (s.setSkipped p n).bypasses = s.bypasses := rfl
@[simp] theorem State.setSkipped_log (s : State) (p : PortId) (n : Nat) : (s.setSkipped p n).log = s.log := rfl
@[simp] theorem State.setSkipped_portLog (s : State) (p : PortId) (n : Nat) :
    (s.setSkipped p n).portLog = s.portLog := rfl
@[simp] theorem State.setSkipped_skipped (s : State) (p : PortId) (n : Nat) :
    (s.setSkipped p n).skipped = s.skipped.set (portNumber p) n := rfl
@[simp] theorem State.setSkipped_inflight (s : State) (p : PortId) (n : Nat) :
    (s.setSkipped p n).inflight = s.inflight := rfl
@[simp] theorem State.setSkipped_mem (s : State) (p : PortId) (n : Nat) : (s.setSkipped p n).mem = s.mem := rfl
@[simp] theorem State.setSkipped_touched (s : State) (p : PortId) (n : Nat) :
    (s.setSkipped p n).touched = s.touched := rfl
@[simp] theorem State.setSkipped_freeCount (s : State) (p : PortId) (n : Nat) :
    (s.setSkipped p n).freeCount = s.freeCount := rfl
@[simp] theorem State.setSkipped_pending (s : State) (p : PortId) (n : Nat) :
    (s.setSkipped p n).pending = s.pending := rfl

@[simp] theorem State.setAccount_mode (s : State) (n : Nat) (x : Account) : (s.setAccount n x).mode = s.mode := rfl
@[simp] theorem State.setAccount_unreadable (s : State) (n : Nat) (x : Account) :
    (s.setAccount n x).unreadable = s.unreadable := rfl
@[simp] theorem State.setAccount_env (s : State) (n : Nat) (x : Account) : (s.setAccount n x).env = s.env := rfl
@[simp] theorem State.setAccount_roles (s : State) (n : Nat) (x : Account) : (s.setAccount n x).roles = s.roles := rfl
@[simp] theorem State.setAccount_queueK (s : State) (n : Nat) (x : Account) :
    (s.setAccount n x).queueK = s.queueK := rfl
@[simp] theorem State.setAccount_ports (s : State) (n : Nat) (x : Account) : (s.setAccount n x).ports = s.ports := rfl
@[simp] theorem State.setAccount_clock (s : State) (n : Nat) (x : Account) : (s.setAccount n x).clock = s.clock := rfl
@[simp] theorem State.setAccount_products (s : State) (n : Nat) (x : Account) :
    (s.setAccount n x).products = s.products := rfl
@[simp] theorem State.setAccount_tanks (s : State) (n : Nat) (x : Account) : (s.setAccount n x).tanks = s.tanks := rfl
@[simp] theorem State.setAccount_points (s : State) (n : Nat) (x : Account) :
    (s.setAccount n x).points = s.points := rfl
@[simp] theorem State.setAccount_islands (s : State) (n : Nat) (x : Account) :
    (s.setAccount n x).islands = s.islands := rfl
@[simp] theorem State.setAccount_accounts (s : State) (n : Nat) (x : Account) :
    (s.setAccount n x).accounts = insertNat s.accounts n x := rfl
@[simp] theorem State.setAccount_stations (s : State) (n : Nat) (x : Account) :
    (s.setAccount n x).stations = s.stations := rfl
@[simp] theorem State.setAccount_probeLast (s : State) (n : Nat) (x : Account) :
    (s.setAccount n x).probeLast = s.probeLast := rfl
@[simp] theorem State.setAccount_zones (s : State) (n : Nat) (x : Account) : (s.setAccount n x).zones = s.zones := rfl
@[simp] theorem State.setAccount_overfill (s : State) (n : Nat) (x : Account) :
    (s.setAccount n x).overfill = s.overfill := rfl
@[simp] theorem State.setAccount_bay (s : State) (n : Nat) (x : Account) : (s.setAccount n x).bay = s.bay := rfl
@[simp] theorem State.setAccount_bypasses (s : State) (n : Nat) (x : Account) :
    (s.setAccount n x).bypasses = s.bypasses := rfl
@[simp] theorem State.setAccount_log (s : State) (n : Nat) (x : Account) : (s.setAccount n x).log = s.log := rfl
@[simp] theorem State.setAccount_portLog (s : State) (n : Nat) (x : Account) :
    (s.setAccount n x).portLog = s.portLog := rfl
@[simp] theorem State.setAccount_skipped (s : State) (n : Nat) (x : Account) :
    (s.setAccount n x).skipped = s.skipped := rfl
@[simp] theorem State.setAccount_inflight (s : State) (n : Nat) (x : Account) :
    (s.setAccount n x).inflight = s.inflight := rfl
@[simp] theorem State.setAccount_mem (s : State) (n : Nat) (x : Account) : (s.setAccount n x).mem = s.mem := rfl
@[simp] theorem State.setAccount_touched (s : State) (n : Nat) (x : Account) :
    (s.setAccount n x).touched = s.touched := rfl
@[simp] theorem State.setAccount_freeCount (s : State) (n : Nat) (x : Account) :
    (s.setAccount n x).freeCount = s.freeCount := rfl
@[simp] theorem State.setAccount_pending (s : State) (n : Nat) (x : Account) :
    (s.setAccount n x).pending = s.pending := rfl

@[simp] theorem State.touch_mode (s : State) (k : ObjKey) : (s.touch k).mode = s.mode := rfl
@[simp] theorem State.touch_unreadable (s : State) (k : ObjKey) : (s.touch k).unreadable = s.unreadable := rfl
@[simp] theorem State.touch_env (s : State) (k : ObjKey) : (s.touch k).env = s.env := rfl
@[simp] theorem State.touch_roles (s : State) (k : ObjKey) : (s.touch k).roles = s.roles := rfl
@[simp] theorem State.touch_queueK (s : State) (k : ObjKey) : (s.touch k).queueK = s.queueK := rfl
@[simp] theorem State.touch_ports (s : State) (k : ObjKey) : (s.touch k).ports = s.ports := rfl
@[simp] theorem State.touch_clock (s : State) (k : ObjKey) : (s.touch k).clock = s.clock := rfl
@[simp] theorem State.touch_products (s : State) (k : ObjKey) : (s.touch k).products = s.products := rfl
@[simp] theorem State.touch_tanks (s : State) (k : ObjKey) : (s.touch k).tanks = s.tanks := rfl
@[simp] theorem State.touch_points (s : State) (k : ObjKey) : (s.touch k).points = s.points := rfl
@[simp] theorem State.touch_islands (s : State) (k : ObjKey) : (s.touch k).islands = s.islands := rfl
@[simp] theorem State.touch_accounts (s : State) (k : ObjKey) : (s.touch k).accounts = s.accounts := rfl
@[simp] theorem State.touch_stations (s : State) (k : ObjKey) : (s.touch k).stations = s.stations := rfl
@[simp] theorem State.touch_probeLast (s : State) (k : ObjKey) : (s.touch k).probeLast = s.probeLast := rfl
@[simp] theorem State.touch_zones (s : State) (k : ObjKey) : (s.touch k).zones = s.zones := rfl
@[simp] theorem State.touch_overfill (s : State) (k : ObjKey) : (s.touch k).overfill = s.overfill := rfl
@[simp] theorem State.touch_bay (s : State) (k : ObjKey) : (s.touch k).bay = s.bay := rfl
@[simp] theorem State.touch_bypasses (s : State) (k : ObjKey) : (s.touch k).bypasses = s.bypasses := rfl
@[simp] theorem State.touch_log (s : State) (k : ObjKey) : (s.touch k).log = s.log := rfl
@[simp] theorem State.touch_portLog (s : State) (k : ObjKey) : (s.touch k).portLog = s.portLog := rfl
@[simp] theorem State.touch_skipped (s : State) (k : ObjKey) : (s.touch k).skipped = s.skipped := rfl
@[simp] theorem State.touch_inflight (s : State) (k : ObjKey) : (s.touch k).inflight = s.inflight := rfl
@[simp] theorem State.touch_mem (s : State) (k : ObjKey) : (s.touch k).mem = s.mem := rfl
@[simp] theorem State.touch_touched (s : State) (k : ObjKey) : (s.touch k).touched = s.touched ++ [k] := rfl
@[simp] theorem State.touch_freeCount (s : State) (k : ObjKey) : (s.touch k).freeCount = s.freeCount := rfl
@[simp] theorem State.touch_pending (s : State) (k : ObjKey) : (s.touch k).pending = s.pending := rfl

/-! ## Objects after updates of other objects -/

@[simp] theorem State.setTank_point (s : State) (t : Nat) (k : Tank) (m : Nat) :
    (s.setTank t k).point m = s.point m := rfl
@[simp] theorem State.setTank_island (s : State) (t : Nat) (k : Tank) (m : Nat) :
    (s.setTank t k).island m = s.island m := rfl
@[simp] theorem State.setTank_station (s : State) (t : Nat) (k : Tank) (m : Nat) :
    (s.setTank t k).station m = s.station m := rfl
@[simp] theorem State.setTank_zone (s : State) (t : Nat) (k : Tank) (m : Nat) : (s.setTank t k).zone m = s.zone m := rfl
@[simp] theorem State.setTank_port (s : State) (t : Nat) (k : Tank) (q : PortId) :
    (s.setTank t k).port q = s.port q := rfl
@[simp] theorem State.setTank_product (s : State) (t : Nat) (k : Tank) (m : Nat) :
    (s.setTank t k).product m = s.product m := rfl
@[simp] theorem State.setTank_entry (s : State) (t : Nat) (k : Tank) (m : Nat) :
    (s.setTank t k).entry m = s.entry m := rfl
@[simp] theorem State.setTank_rolesOf (s : State) (t : Nat) (k : Tank) (q : PortId) :
    (s.setTank t k).rolesOf q = s.rolesOf q := rfl
@[simp] theorem State.setTank_queueLength (s : State) (t : Nat) (k : Tank) (q : PortId) :
    (s.setTank t k).queueLength q = s.queueLength q := rfl
@[simp] theorem State.setTank_logOf (s : State) (t : Nat) (k : Tank) (q : PortId) :
    (s.setTank t k).logOf q = s.logOf q := rfl
@[simp] theorem State.setTank_skippedOf (s : State) (t : Nat) (k : Tank) (q : PortId) :
    (s.setTank t k).skippedOf q = s.skippedOf q := rfl
@[simp] theorem State.setTank_now (s : State) (t : Nat) (k : Tank) : (s.setTank t k).now = s.now := rfl
@[simp] theorem State.setTank_account (s : State) (t : Nat) (k : Tank) (m : Nat) :
    (s.setTank t k).account? m = s.account? m := rfl

@[simp] theorem State.setPoint_tank (s : State) (i : Nat) (x : Point) (m : Nat) :
    (s.setPoint i x).tank m = s.tank m := rfl
@[simp] theorem State.setPoint_island (s : State) (i : Nat) (x : Point) (m : Nat) :
    (s.setPoint i x).island m = s.island m := rfl
@[simp] theorem State.setPoint_station (s : State) (i : Nat) (x : Point) (m : Nat) :
    (s.setPoint i x).station m = s.station m := rfl
@[simp] theorem State.setPoint_zone (s : State) (i : Nat) (x : Point) (m : Nat) :
    (s.setPoint i x).zone m = s.zone m := rfl
@[simp] theorem State.setPoint_port (s : State) (i : Nat) (x : Point) (q : PortId) :
    (s.setPoint i x).port q = s.port q := rfl
@[simp] theorem State.setPoint_product (s : State) (i : Nat) (x : Point) (m : Nat) :
    (s.setPoint i x).product m = s.product m := rfl
@[simp] theorem State.setPoint_entry (s : State) (i : Nat) (x : Point) (m : Nat) :
    (s.setPoint i x).entry m = s.entry m := rfl
@[simp] theorem State.setPoint_rolesOf (s : State) (i : Nat) (x : Point) (q : PortId) :
    (s.setPoint i x).rolesOf q = s.rolesOf q := rfl
@[simp] theorem State.setPoint_queueLength (s : State) (i : Nat) (x : Point) (q : PortId) :
    (s.setPoint i x).queueLength q = s.queueLength q := rfl
@[simp] theorem State.setPoint_logOf (s : State) (i : Nat) (x : Point) (q : PortId) :
    (s.setPoint i x).logOf q = s.logOf q := rfl
@[simp] theorem State.setPoint_skippedOf (s : State) (i : Nat) (x : Point) (q : PortId) :
    (s.setPoint i x).skippedOf q = s.skippedOf q := rfl
@[simp] theorem State.setPoint_now (s : State) (i : Nat) (x : Point) : (s.setPoint i x).now = s.now := rfl
@[simp] theorem State.setPoint_account (s : State) (i : Nat) (x : Point) (m : Nat) :
    (s.setPoint i x).account? m = s.account? m := rfl

@[simp] theorem State.setIsland_tank (s : State) (i : Nat) (x : Island) (m : Nat) :
    (s.setIsland i x).tank m = s.tank m := rfl
@[simp] theorem State.setIsland_point (s : State) (i : Nat) (x : Island) (m : Nat) :
    (s.setIsland i x).point m = s.point m := rfl
@[simp] theorem State.setIsland_station (s : State) (i : Nat) (x : Island) (m : Nat) :
    (s.setIsland i x).station m = s.station m := rfl
@[simp] theorem State.setIsland_zone (s : State) (i : Nat) (x : Island) (m : Nat) :
    (s.setIsland i x).zone m = s.zone m := rfl
@[simp] theorem State.setIsland_port (s : State) (i : Nat) (x : Island) (q : PortId) :
    (s.setIsland i x).port q = s.port q := rfl
@[simp] theorem State.setIsland_product (s : State) (i : Nat) (x : Island) (m : Nat) :
    (s.setIsland i x).product m = s.product m := rfl
@[simp] theorem State.setIsland_entry (s : State) (i : Nat) (x : Island) (m : Nat) :
    (s.setIsland i x).entry m = s.entry m := rfl
@[simp] theorem State.setIsland_rolesOf (s : State) (i : Nat) (x : Island) (q : PortId) :
    (s.setIsland i x).rolesOf q = s.rolesOf q := rfl
@[simp] theorem State.setIsland_queueLength (s : State) (i : Nat) (x : Island) (q : PortId) :
    (s.setIsland i x).queueLength q = s.queueLength q := rfl
@[simp] theorem State.setIsland_logOf (s : State) (i : Nat) (x : Island) (q : PortId) :
    (s.setIsland i x).logOf q = s.logOf q := rfl
@[simp] theorem State.setIsland_skippedOf (s : State) (i : Nat) (x : Island) (q : PortId) :
    (s.setIsland i x).skippedOf q = s.skippedOf q := rfl
@[simp] theorem State.setIsland_now (s : State) (i : Nat) (x : Island) : (s.setIsland i x).now = s.now := rfl
@[simp] theorem State.setIsland_account (s : State) (i : Nat) (x : Island) (m : Nat) :
    (s.setIsland i x).account? m = s.account? m := rfl

@[simp] theorem State.setStation_tank (s : State) (n : Nat) (x : Station) (m : Nat) :
    (s.setStation n x).tank m = s.tank m := rfl
@[simp] theorem State.setStation_point (s : State) (n : Nat) (x : Station) (m : Nat) :
    (s.setStation n x).point m = s.point m := rfl
@[simp] theorem State.setStation_island (s : State) (n : Nat) (x : Station) (m : Nat) :
    (s.setStation n x).island m = s.island m := rfl
@[simp] theorem State.setStation_zone (s : State) (n : Nat) (x : Station) (m : Nat) :
    (s.setStation n x).zone m = s.zone m := rfl
@[simp] theorem State.setStation_port (s : State) (n : Nat) (x : Station) (q : PortId) :
    (s.setStation n x).port q = s.port q := rfl
@[simp] theorem State.setStation_product (s : State) (n : Nat) (x : Station) (m : Nat) :
    (s.setStation n x).product m = s.product m := rfl
@[simp] theorem State.setStation_entry (s : State) (n : Nat) (x : Station) (m : Nat) :
    (s.setStation n x).entry m = s.entry m := rfl
@[simp] theorem State.setStation_rolesOf (s : State) (n : Nat) (x : Station) (q : PortId) :
    (s.setStation n x).rolesOf q = s.rolesOf q := rfl
@[simp] theorem State.setStation_queueLength (s : State) (n : Nat) (x : Station) (q : PortId) :
    (s.setStation n x).queueLength q = s.queueLength q := rfl
@[simp] theorem State.setStation_logOf (s : State) (n : Nat) (x : Station) (q : PortId) :
    (s.setStation n x).logOf q = s.logOf q := rfl
@[simp] theorem State.setStation_skippedOf (s : State) (n : Nat) (x : Station) (q : PortId) :
    (s.setStation n x).skippedOf q = s.skippedOf q := rfl
@[simp] theorem State.setStation_now (s : State) (n : Nat) (x : Station) : (s.setStation n x).now = s.now := rfl
@[simp] theorem State.setStation_account (s : State) (n : Nat) (x : Station) (m : Nat) :
    (s.setStation n x).account? m = s.account? m := rfl

@[simp] theorem State.setZone_tank (s : State) (z : Nat) (x : Zone) (m : Nat) : (s.setZone z x).tank m = s.tank m := rfl
@[simp] theorem State.setZone_point (s : State) (z : Nat) (x : Zone) (m : Nat) :
    (s.setZone z x).point m = s.point m := rfl
@[simp] theorem State.setZone_island (s : State) (z : Nat) (x : Zone) (m : Nat) :
    (s.setZone z x).island m = s.island m := rfl
@[simp] theorem State.setZone_station (s : State) (z : Nat) (x : Zone) (m : Nat) :
    (s.setZone z x).station m = s.station m := rfl
@[simp] theorem State.setZone_port (s : State) (z : Nat) (x : Zone) (q : PortId) :
    (s.setZone z x).port q = s.port q := rfl
@[simp] theorem State.setZone_product (s : State) (z : Nat) (x : Zone) (m : Nat) :
    (s.setZone z x).product m = s.product m := rfl
@[simp] theorem State.setZone_entry (s : State) (z : Nat) (x : Zone) (m : Nat) :
    (s.setZone z x).entry m = s.entry m := rfl
@[simp] theorem State.setZone_rolesOf (s : State) (z : Nat) (x : Zone) (q : PortId) :
    (s.setZone z x).rolesOf q = s.rolesOf q := rfl
@[simp] theorem State.setZone_queueLength (s : State) (z : Nat) (x : Zone) (q : PortId) :
    (s.setZone z x).queueLength q = s.queueLength q := rfl
@[simp] theorem State.setZone_logOf (s : State) (z : Nat) (x : Zone) (q : PortId) :
    (s.setZone z x).logOf q = s.logOf q := rfl
@[simp] theorem State.setZone_skippedOf (s : State) (z : Nat) (x : Zone) (q : PortId) :
    (s.setZone z x).skippedOf q = s.skippedOf q := rfl
@[simp] theorem State.setZone_now (s : State) (z : Nat) (x : Zone) : (s.setZone z x).now = s.now := rfl
@[simp] theorem State.setZone_account (s : State) (z : Nat) (x : Zone) (m : Nat) :
    (s.setZone z x).account? m = s.account? m := rfl

@[simp] theorem State.setPort_tank (s : State) (p : PortId) (x : Port) (m : Nat) :
    (s.setPort p x).tank m = s.tank m := rfl
@[simp] theorem State.setPort_point (s : State) (p : PortId) (x : Port) (m : Nat) :
    (s.setPort p x).point m = s.point m := rfl
@[simp] theorem State.setPort_island (s : State) (p : PortId) (x : Port) (m : Nat) :
    (s.setPort p x).island m = s.island m := rfl
@[simp] theorem State.setPort_station (s : State) (p : PortId) (x : Port) (m : Nat) :
    (s.setPort p x).station m = s.station m := rfl
@[simp] theorem State.setPort_zone (s : State) (p : PortId) (x : Port) (m : Nat) :
    (s.setPort p x).zone m = s.zone m := rfl
@[simp] theorem State.setPort_product (s : State) (p : PortId) (x : Port) (m : Nat) :
    (s.setPort p x).product m = s.product m := rfl
@[simp] theorem State.setPort_entry (s : State) (p : PortId) (x : Port) (m : Nat) :
    (s.setPort p x).entry m = s.entry m := rfl
@[simp] theorem State.setPort_rolesOf (s : State) (p : PortId) (x : Port) (q : PortId) :
    (s.setPort p x).rolesOf q = s.rolesOf q := rfl
@[simp] theorem State.setPort_queueLength (s : State) (p : PortId) (x : Port) (q : PortId) :
    (s.setPort p x).queueLength q = s.queueLength q := rfl
@[simp] theorem State.setPort_logOf (s : State) (p : PortId) (x : Port) (q : PortId) :
    (s.setPort p x).logOf q = s.logOf q := rfl
@[simp] theorem State.setPort_skippedOf (s : State) (p : PortId) (x : Port) (q : PortId) :
    (s.setPort p x).skippedOf q = s.skippedOf q := rfl
@[simp] theorem State.setPort_now (s : State) (p : PortId) (x : Port) : (s.setPort p x).now = s.now := rfl
@[simp] theorem State.setPort_account (s : State) (p : PortId) (x : Port) (m : Nat) :
    (s.setPort p x).account? m = s.account? m := rfl

@[simp] theorem State.setProduct_tank (s : State) (n : Nat) (x : Product) (m : Nat) :
    (s.setProduct n x).tank m = s.tank m := rfl
@[simp] theorem State.setProduct_point (s : State) (n : Nat) (x : Product) (m : Nat) :
    (s.setProduct n x).point m = s.point m := rfl
@[simp] theorem State.setProduct_island (s : State) (n : Nat) (x : Product) (m : Nat) :
    (s.setProduct n x).island m = s.island m := rfl
@[simp] theorem State.setProduct_station (s : State) (n : Nat) (x : Product) (m : Nat) :
    (s.setProduct n x).station m = s.station m := rfl
@[simp] theorem State.setProduct_zone (s : State) (n : Nat) (x : Product) (m : Nat) :
    (s.setProduct n x).zone m = s.zone m := rfl
@[simp] theorem State.setProduct_port (s : State) (n : Nat) (x : Product) (q : PortId) :
    (s.setProduct n x).port q = s.port q := rfl
@[simp] theorem State.setProduct_entry (s : State) (n : Nat) (x : Product) (m : Nat) :
    (s.setProduct n x).entry m = s.entry m := rfl
@[simp] theorem State.setProduct_rolesOf (s : State) (n : Nat) (x : Product) (q : PortId) :
    (s.setProduct n x).rolesOf q = s.rolesOf q := rfl
@[simp] theorem State.setProduct_queueLength (s : State) (n : Nat) (x : Product) (q : PortId) :
    (s.setProduct n x).queueLength q = s.queueLength q := rfl
@[simp] theorem State.setProduct_logOf (s : State) (n : Nat) (x : Product) (q : PortId) :
    (s.setProduct n x).logOf q = s.logOf q := rfl
@[simp] theorem State.setProduct_skippedOf (s : State) (n : Nat) (x : Product) (q : PortId) :
    (s.setProduct n x).skippedOf q = s.skippedOf q := rfl
@[simp] theorem State.setProduct_now (s : State) (n : Nat) (x : Product) : (s.setProduct n x).now = s.now := rfl
@[simp] theorem State.setProduct_account (s : State) (n : Nat) (x : Product) (m : Nat) :
    (s.setProduct n x).account? m = s.account? m := rfl

@[simp] theorem State.setEntry_tank (s : State) (n : Nat) (x : Option Entry) (m : Nat) :
    (s.setEntry n x).tank m = s.tank m := rfl
@[simp] theorem State.setEntry_point (s : State) (n : Nat) (x : Option Entry) (m : Nat) :
    (s.setEntry n x).point m = s.point m := rfl
@[simp] theorem State.setEntry_island (s : State) (n : Nat) (x : Option Entry) (m : Nat) :
    (s.setEntry n x).island m = s.island m := rfl
@[simp] theorem State.setEntry_station (s : State) (n : Nat) (x : Option Entry) (m : Nat) :
    (s.setEntry n x).station m = s.station m := rfl
@[simp] theorem State.setEntry_zone (s : State) (n : Nat) (x : Option Entry) (m : Nat) :
    (s.setEntry n x).zone m = s.zone m := rfl
@[simp] theorem State.setEntry_port (s : State) (n : Nat) (x : Option Entry) (q : PortId) :
    (s.setEntry n x).port q = s.port q := rfl
@[simp] theorem State.setEntry_product (s : State) (n : Nat) (x : Option Entry) (m : Nat) :
    (s.setEntry n x).product m = s.product m := rfl
@[simp] theorem State.setEntry_rolesOf (s : State) (n : Nat) (x : Option Entry) (q : PortId) :
    (s.setEntry n x).rolesOf q = s.rolesOf q := rfl
@[simp] theorem State.setEntry_queueLength (s : State) (n : Nat) (x : Option Entry) (q : PortId) :
    (s.setEntry n x).queueLength q = s.queueLength q := rfl
@[simp] theorem State.setEntry_logOf (s : State) (n : Nat) (x : Option Entry) (q : PortId) :
    (s.setEntry n x).logOf q = s.logOf q := rfl
@[simp] theorem State.setEntry_skippedOf (s : State) (n : Nat) (x : Option Entry) (q : PortId) :
    (s.setEntry n x).skippedOf q = s.skippedOf q := rfl
@[simp] theorem State.setEntry_now (s : State) (n : Nat) (x : Option Entry) : (s.setEntry n x).now = s.now := rfl
@[simp] theorem State.setEntry_account (s : State) (n : Nat) (x : Option Entry) (m : Nat) :
    (s.setEntry n x).account? m = s.account? m := rfl

@[simp] theorem State.setLogOf_tank (s : State) (p : PortId) (x : PortLog) (m : Nat) :
    (s.setLogOf p x).tank m = s.tank m := rfl
@[simp] theorem State.setLogOf_point (s : State) (p : PortId) (x : PortLog) (m : Nat) :
    (s.setLogOf p x).point m = s.point m := rfl
@[simp] theorem State.setLogOf_island (s : State) (p : PortId) (x : PortLog) (m : Nat) :
    (s.setLogOf p x).island m = s.island m := rfl
@[simp] theorem State.setLogOf_station (s : State) (p : PortId) (x : PortLog) (m : Nat) :
    (s.setLogOf p x).station m = s.station m := rfl
@[simp] theorem State.setLogOf_zone (s : State) (p : PortId) (x : PortLog) (m : Nat) :
    (s.setLogOf p x).zone m = s.zone m := rfl
@[simp] theorem State.setLogOf_port (s : State) (p : PortId) (x : PortLog) (q : PortId) :
    (s.setLogOf p x).port q = s.port q := rfl
@[simp] theorem State.setLogOf_product (s : State) (p : PortId) (x : PortLog) (m : Nat) :
    (s.setLogOf p x).product m = s.product m := rfl
@[simp] theorem State.setLogOf_entry (s : State) (p : PortId) (x : PortLog) (m : Nat) :
    (s.setLogOf p x).entry m = s.entry m := rfl
@[simp] theorem State.setLogOf_rolesOf (s : State) (p : PortId) (x : PortLog) (q : PortId) :
    (s.setLogOf p x).rolesOf q = s.rolesOf q := rfl
@[simp] theorem State.setLogOf_queueLength (s : State) (p : PortId) (x : PortLog) (q : PortId) :
    (s.setLogOf p x).queueLength q = s.queueLength q := rfl
@[simp] theorem State.setLogOf_skippedOf (s : State) (p : PortId) (x : PortLog) (q : PortId) :
    (s.setLogOf p x).skippedOf q = s.skippedOf q := rfl
@[simp] theorem State.setLogOf_now (s : State) (p : PortId) (x : PortLog) : (s.setLogOf p x).now = s.now := rfl
@[simp] theorem State.setLogOf_account (s : State) (p : PortId) (x : PortLog) (m : Nat) :
    (s.setLogOf p x).account? m = s.account? m := rfl

@[simp] theorem State.setSkipped_tank (s : State) (p : PortId) (n : Nat) (m : Nat) :
    (s.setSkipped p n).tank m = s.tank m := rfl
@[simp] theorem State.setSkipped_point (s : State) (p : PortId) (n : Nat) (m : Nat) :
    (s.setSkipped p n).point m = s.point m := rfl
@[simp] theorem State.setSkipped_island (s : State) (p : PortId) (n : Nat) (m : Nat) :
    (s.setSkipped p n).island m = s.island m := rfl
@[simp] theorem State.setSkipped_station (s : State) (p : PortId) (n : Nat) (m : Nat) :
    (s.setSkipped p n).station m = s.station m := rfl
@[simp] theorem State.setSkipped_zone (s : State) (p : PortId) (n : Nat) (m : Nat) :
    (s.setSkipped p n).zone m = s.zone m := rfl
@[simp] theorem State.setSkipped_port (s : State) (p : PortId) (n : Nat) (q : PortId) :
    (s.setSkipped p n).port q = s.port q := rfl
@[simp] theorem State.setSkipped_product (s : State) (p : PortId) (n : Nat) (m : Nat) :
    (s.setSkipped p n).product m = s.product m := rfl
@[simp] theorem State.setSkipped_entry (s : State) (p : PortId) (n : Nat) (m : Nat) :
    (s.setSkipped p n).entry m = s.entry m := rfl
@[simp] theorem State.setSkipped_rolesOf (s : State) (p : PortId) (n : Nat) (q : PortId) :
    (s.setSkipped p n).rolesOf q = s.rolesOf q := rfl
@[simp] theorem State.setSkipped_queueLength (s : State) (p : PortId) (n : Nat) (q : PortId) :
    (s.setSkipped p n).queueLength q = s.queueLength q := rfl
@[simp] theorem State.setSkipped_logOf (s : State) (p : PortId) (n : Nat) (q : PortId) :
    (s.setSkipped p n).logOf q = s.logOf q := rfl
@[simp] theorem State.setSkipped_now (s : State) (p : PortId) (n : Nat) : (s.setSkipped p n).now = s.now := rfl
@[simp] theorem State.setSkipped_account (s : State) (p : PortId) (n : Nat) (m : Nat) :
    (s.setSkipped p n).account? m = s.account? m := rfl

@[simp] theorem State.setAccount_tank (s : State) (n : Nat) (x : Account) (m : Nat) :
    (s.setAccount n x).tank m = s.tank m := rfl
@[simp] theorem State.setAccount_point (s : State) (n : Nat) (x : Account) (m : Nat) :
    (s.setAccount n x).point m = s.point m := rfl
@[simp] theorem State.setAccount_island (s : State) (n : Nat) (x : Account) (m : Nat) :
    (s.setAccount n x).island m = s.island m := rfl
@[simp] theorem State.setAccount_station (s : State) (n : Nat) (x : Account) (m : Nat) :
    (s.setAccount n x).station m = s.station m := rfl
@[simp] theorem State.setAccount_zone (s : State) (n : Nat) (x : Account) (m : Nat) :
    (s.setAccount n x).zone m = s.zone m := rfl
@[simp] theorem State.setAccount_port (s : State) (n : Nat) (x : Account) (q : PortId) :
    (s.setAccount n x).port q = s.port q := rfl
@[simp] theorem State.setAccount_product (s : State) (n : Nat) (x : Account) (m : Nat) :
    (s.setAccount n x).product m = s.product m := rfl
@[simp] theorem State.setAccount_entry (s : State) (n : Nat) (x : Account) (m : Nat) :
    (s.setAccount n x).entry m = s.entry m := rfl
@[simp] theorem State.setAccount_rolesOf (s : State) (n : Nat) (x : Account) (q : PortId) :
    (s.setAccount n x).rolesOf q = s.rolesOf q := rfl
@[simp] theorem State.setAccount_queueLength (s : State) (n : Nat) (x : Account) (q : PortId) :
    (s.setAccount n x).queueLength q = s.queueLength q := rfl
@[simp] theorem State.setAccount_logOf (s : State) (n : Nat) (x : Account) (q : PortId) :
    (s.setAccount n x).logOf q = s.logOf q := rfl
@[simp] theorem State.setAccount_skippedOf (s : State) (n : Nat) (x : Account) (q : PortId) :
    (s.setAccount n x).skippedOf q = s.skippedOf q := rfl
@[simp] theorem State.setAccount_now (s : State) (n : Nat) (x : Account) : (s.setAccount n x).now = s.now := rfl

@[simp] theorem State.touch_tank (s : State) (k : ObjKey) (m : Nat) : (s.touch k).tank m = s.tank m := rfl
@[simp] theorem State.touch_point (s : State) (k : ObjKey) (m : Nat) : (s.touch k).point m = s.point m := rfl
@[simp] theorem State.touch_island (s : State) (k : ObjKey) (m : Nat) : (s.touch k).island m = s.island m := rfl
@[simp] theorem State.touch_station (s : State) (k : ObjKey) (m : Nat) : (s.touch k).station m = s.station m := rfl
@[simp] theorem State.touch_zone (s : State) (k : ObjKey) (m : Nat) : (s.touch k).zone m = s.zone m := rfl
@[simp] theorem State.touch_port (s : State) (k : ObjKey) (q : PortId) : (s.touch k).port q = s.port q := rfl
@[simp] theorem State.touch_product (s : State) (k : ObjKey) (m : Nat) : (s.touch k).product m = s.product m := rfl
@[simp] theorem State.touch_entry (s : State) (k : ObjKey) (m : Nat) : (s.touch k).entry m = s.entry m := rfl
@[simp] theorem State.touch_rolesOf (s : State) (k : ObjKey) (q : PortId) : (s.touch k).rolesOf q = s.rolesOf q := rfl
@[simp] theorem State.touch_queueLength (s : State) (k : ObjKey) (q : PortId) :
    (s.touch k).queueLength q = s.queueLength q := rfl
@[simp] theorem State.touch_logOf (s : State) (k : ObjKey) (q : PortId) : (s.touch k).logOf q = s.logOf q := rfl
@[simp] theorem State.touch_skippedOf (s : State) (k : ObjKey) (q : PortId) :
    (s.touch k).skippedOf q = s.skippedOf q := rfl
@[simp] theorem State.touch_now (s : State) (k : ObjKey) : (s.touch k).now = s.now := rfl
@[simp] theorem State.touch_account (s : State) (k : ObjKey) (m : Nat) : (s.touch k).account? m = s.account? m := rfl

/-! ## Objects after their own update -/

@[simp] theorem portNumber_range (p : PortId) : 1 ≤ portNumber p ∧ portNumber p ≤ 3 := by cases p <;> decide

theorem portNumber_injective {p q : PortId} (h : portNumber p = portNumber q) : p = q := by
  cases p <;> cases q <;> first | rfl | cases h

@[simp] theorem State.tank_setTank (s : State) (t : Nat) (k : Tank) (h : 1 ≤ t ∧ t ≤ 8) :
    (s.setTank t k).tank t = k := Bank.getD_set_same _ _ _ h

@[simp] theorem State.tank_setTank_ne (s : State) (t m : Nat) (k : Tank) (h : m ≠ t) :
    (s.setTank t k).tank m = s.tank m := Bank.getD_set_ne _ _ _ h

@[simp] theorem State.setTank_setTank (s : State) (t : Nat) (k y : Tank) :
    (s.setTank t k).setTank t y = s.setTank t y := by simp [State.setTank]

@[simp] theorem State.point_setPoint (s : State) (i : Nat) (x : Point) (h : 1 ≤ i ∧ i ≤ 12) :
    (s.setPoint i x).point i = x := Bank.getD_set_same _ _ _ h

@[simp] theorem State.point_setPoint_ne (s : State) (i m : Nat) (x : Point) (h : m ≠ i) :
    (s.setPoint i x).point m = s.point m := Bank.getD_set_ne _ _ _ h

@[simp] theorem State.setPoint_setPoint (s : State) (i : Nat) (x y : Point) :
    (s.setPoint i x).setPoint i y = s.setPoint i y := by simp [State.setPoint]

@[simp] theorem State.island_setIsland (s : State) (i : Nat) (x : Island) (h : 1 ≤ i ∧ i ≤ 4) :
    (s.setIsland i x).island i = x := Bank.getD_set_same _ _ _ h

@[simp] theorem State.island_setIsland_ne (s : State) (i m : Nat) (x : Island) (h : m ≠ i) :
    (s.setIsland i x).island m = s.island m := Bank.getD_set_ne _ _ _ h

@[simp] theorem State.setIsland_setIsland (s : State) (i : Nat) (x y : Island) :
    (s.setIsland i x).setIsland i y = s.setIsland i y := by simp [State.setIsland]

@[simp] theorem State.station_setStation (s : State) (n : Nat) (x : Station) (h : 1 ≤ n ∧ n ≤ 2) :
    (s.setStation n x).station n = x := Bank.getD_set_same _ _ _ h

@[simp] theorem State.station_setStation_ne (s : State) (n m : Nat) (x : Station) (h : m ≠ n) :
    (s.setStation n x).station m = s.station m := Bank.getD_set_ne _ _ _ h

@[simp] theorem State.setStation_setStation (s : State) (n : Nat) (x y : Station) :
    (s.setStation n x).setStation n y = s.setStation n y := by simp [State.setStation]

@[simp] theorem State.zone_setZone (s : State) (z : Nat) (x : Zone) (h : 1 ≤ z ∧ z ≤ 6) :
    (s.setZone z x).zone z = x := Bank.getD_set_same _ _ _ h

@[simp] theorem State.zone_setZone_ne (s : State) (z m : Nat) (x : Zone) (h : m ≠ z) :
    (s.setZone z x).zone m = s.zone m := Bank.getD_set_ne _ _ _ h

@[simp] theorem State.setZone_setZone (s : State) (z : Nat) (x y : Zone) :
    (s.setZone z x).setZone z y = s.setZone z y := by simp [State.setZone]

@[simp] theorem State.product_setProduct (s : State) (n : Nat) (x : Product) (h : 1 ≤ n ∧ n ≤ 8) :
    (s.setProduct n x).product n = x := Bank.getD_set_same _ _ _ h

@[simp] theorem State.product_setProduct_ne (s : State) (n m : Nat) (x : Product) (h : m ≠ n) :
    (s.setProduct n x).product m = s.product m := Bank.getD_set_ne _ _ _ h

@[simp] theorem State.setProduct_setProduct (s : State) (n : Nat) (x y : Product) :
    (s.setProduct n x).setProduct n y = s.setProduct n y := by simp [State.setProduct]

@[simp] theorem State.entry_setEntry (s : State) (n : Nat) (x : Option Entry) (h : 1 ≤ n ∧ n ≤ 14) :
    (s.setEntry n x).entry n = x := Bank.getD_set_same _ _ _ h

@[simp] theorem State.entry_setEntry_ne (s : State) (n m : Nat) (x : Option Entry) (h : m ≠ n) :
    (s.setEntry n x).entry m = s.entry m := Bank.getD_set_ne _ _ _ h

@[simp] theorem State.setEntry_setEntry (s : State) (n : Nat) (x y : Option Entry) :
    (s.setEntry n x).setEntry n y = s.setEntry n y := by simp [State.setEntry]

@[simp] theorem State.port_setPort (s : State) (p : PortId) (x : Port) : (s.setPort p x).port p = x :=
  Bank.getD_set_same _ _ _ (portNumber_range p)

@[simp] theorem State.port_setPort_ne (s : State) (p q : PortId) (x : Port) (h : q ≠ p) : (s.setPort p x).port q = s.port q :=
  Bank.getD_set_ne _ _ _ fun e => h (portNumber_injective e)

@[simp] theorem State.logOf_setLogOf (s : State) (p : PortId) (x : PortLog) : (s.setLogOf p x).logOf p = x :=
  Bank.getD_set_same _ _ _ (portNumber_range p)

@[simp] theorem State.logOf_setLogOf_ne (s : State) (p q : PortId) (x : PortLog) (h : q ≠ p) : (s.setLogOf p x).logOf q = s.logOf q :=
  Bank.getD_set_ne _ _ _ fun e => h (portNumber_injective e)

@[simp] theorem State.skippedOf_setSkipped (s : State) (p : PortId) (x : Nat) : (s.setSkipped p x).skippedOf p = x :=
  Bank.getD_set_same _ _ _ (portNumber_range p)

@[simp] theorem State.skippedOf_setSkipped_ne (s : State) (p q : PortId) (x : Nat) (h : q ≠ p) : (s.setSkipped p x).skippedOf q = s.skippedOf q :=
  Bank.getD_set_ne _ _ _ fun e => h (portNumber_injective e)

/-! ## Keyed lists -/

@[simp] theorem lookupNat_insertNat_same {α : Type} (l : List (Nat × α)) (k : Nat) (a : α) :
    lookupNat (insertNat l k a) k = some a := by
  induction l with
  | nil => simp [insertNat, lookupNat]
  | cons x l ih =>
    obtain ⟨j, b⟩ := x
    by_cases h1 : k < j
    · simp [insertNat, h1, lookupNat]
    · by_cases h2 : k = j
      · simp [insertNat, h2, lookupNat]
      · have h3 : (j == k) = false := by simpa using fun e : j = k => h2 e.symm
        simp only [insertNat, h1, h2, if_false]
        simp only [lookupNat, List.find?_cons, h3] at ih ⊢
        exact ih

@[simp] theorem lookupNat_insertNat_ne {α : Type} (l : List (Nat × α)) {j k : Nat} (a : α) (h : j ≠ k) :
    lookupNat (insertNat l k a) j = lookupNat l j := by
  induction l with
  | nil => simp [insertNat, lookupNat, Ne.symm h]
  | cons x l ih =>
    obtain ⟨m, b⟩ := x
    by_cases h1 : k < m
    · simp [insertNat, h1, lookupNat, Ne.symm h]
    · by_cases h2 : k = m
      · subst h2
        simp [insertNat, lookupNat, Ne.symm h]
      · simp only [insertNat, h1, h2, if_false]
        by_cases h3 : m = j
        · simp [lookupNat, h3]
        · have h4 : (m == j) = false := by simpa using h3
          simp only [lookupNat, List.find?_cons, h4] at ih ⊢
          exact ih

@[simp] theorem State.account?_setAccount (s : State) (n : Nat) (a : Account) : (s.setAccount n a).account? n = some a :=
  lookupNat_insertNat_same _ _ _

@[simp] theorem State.account?_setAccount_ne (s : State) (n m : Nat) (a : Account) (h : m ≠ n) :
    (s.setAccount n a).account? m = s.account? m := lookupNat_insertNat_ne _ _ h

end Machine

end Sys2Proof
end

