-- ==== Sys2Proof/Laws/Outside.lean ====
section
/-! SUPPORT. What no operation of the points, tanks, pumps, stations, islands, accounts, log and Spill Monitor touches:
the part's mode, pins, roles, clock, products, attachments and memory. One lemma for each operation. -/

namespace Sys2Proof.Machine

/-- What only the commands on settings, ports and power touch. -/
structure Outside where
  mode : Mode
  unreadable : Bool
  env : Env
  roles : Bank RoleSet 3
  queueK : Bank Nat 3
  clock : Clock
  products : Bank Product 8
  probeLast : Nat
  portLog : Bank PortLog 3
  skipped : Bank Nat 3
  mem : Memory
  freeCount : Nat
  pending : List Instr

/-- That part of a state. -/
def State.outside (s : State) : Outside :=
  ⟨s.mode, s.unreadable, s.env, s.roles, s.queueK, s.clock, s.products, s.probeLast, s.portLog, s.skipped, s.mem,
    s.freeCount, s.pending⟩

/-- An action folded over a list keeps what each of its steps keeps. -/
theorem foldl_keeps {α β : Type} {g : State → β} {f : State → α → State} (h : ∀ s a, g (f s a) = g s) (l : List α)
    (s : State) : g (l.foldl f s) = g s := by
  induction l generalizing s with
  | nil => rfl
  | cons a l ih => rw [List.foldl_cons, ih, h]

/-- An action made for each number keeps what each of its steps keeps. -/
theorem forEach_keeps {β : Type} {g : State → β} {f : Nat → State → State} (h : ∀ i s, g (f i s) = g s) (n : Nat)
    (s : State) : g (forEach n f s) = g s := foldl_keeps (fun s i => h i s) _ s

@[simp] theorem State.setTank_outside (s : State) (t : Nat) (k : Tank) : (s.setTank t k).outside = s.outside := rfl
@[simp] theorem State.setPoint_outside (s : State) (i : Nat) (x : Point) : (s.setPoint i x).outside = s.outside := rfl
@[simp] theorem State.setIsland_outside (s : State) (i : Nat) (x : Island) : (s.setIsland i x).outside = s.outside := rfl
@[simp] theorem State.setStation_outside (s : State) (n : Nat) (x : Station) : (s.setStation n x).outside = s.outside := rfl
@[simp] theorem State.setZone_outside (s : State) (z : Nat) (x : Zone) : (s.setZone z x).outside = s.outside := rfl
@[simp] theorem State.setPort_outside (s : State) (p : PortId) (x : Port) : (s.setPort p x).outside = s.outside := rfl
@[simp] theorem State.setEntry_outside (s : State) (n : Nat) (e : Option Entry) : (s.setEntry n e).outside = s.outside := rfl
@[simp] theorem State.setAccount_outside (s : State) (n : Nat) (a : Account) : (s.setAccount n a).outside = s.outside := rfl
@[simp] theorem State.touch_outside (s : State) (k : ObjKey) : (s.touch k).outside = s.outside := rfl
@[simp] theorem State.modTank_outside (s : State) (t : Nat) (f : Tank → Tank) : (s.modTank t f).outside = s.outside := rfl
@[simp] theorem State.modPoint_outside (s : State) (i : Nat) (f : Point → Point) : (s.modPoint i f).outside = s.outside := rfl
@[simp] theorem State.modIsland_outside (s : State) (i : Nat) (f : Island → Island) : (s.modIsland i f).outside = s.outside := rfl
@[simp] theorem State.modStation_outside (s : State) (n : Nat) (f : Station → Station) : (s.modStation n f).outside = s.outside := rfl
@[simp] theorem State.modZone_outside (s : State) (z : Nat) (f : Zone → Zone) : (s.modZone z f).outside = s.outside := rfl
@[simp] theorem State.modPort_outside (s : State) (p : PortId) (f : Port → Port) : (s.modPort p f).outside = s.outside := rfl

@[simp] theorem State.modAccount_outside (s : State) (n : Nat) (f : Account → Account) :
    (s.modAccount n f).outside = s.outside := by
  unfold State.modAccount
  split <;> simp

/-! ## Notices and the log -/

@[simp] theorem offer_outside (n : Notice) (p : PortId) (s : State) : (offer n p s).outside = s.outside := by
  simp [offer]

@[simp] theorem raiseTo_outside (aud : Audience) (kind : NoticeKind) (subject : SubjectKind) (number : Nat)
    (first second : Int) (s : State) : (raiseTo aud kind subject number first second s).outside = s.outside := by
  unfold raiseTo
  apply foldl_keeps
  intro s p
  split <;> simp

@[simp] theorem raise_outside (kind : NoticeKind) (subject : SubjectKind) (number : Nat) (first second : Int)
    (s : State) : (raise kind subject number first second s).outside = s.outside := by simp [raise]

/-- A change of the log alone. -/
theorem State.withLog_outside (s : State) (l : Log) : ({ s with log := l } : State).outside = s.outside := rfl

@[simp] theorem judgeSpace_outside (s : State) : (judgeSpace s).outside = s.outside := by
  unfold judgeSpace
  split
  · simp [State.withLog_outside]
  · split
    · rfl
    · rfl

@[simp] theorem reserveSlot_outside (s : State) : (reserveSlot s).1.outside = s.outside := by
  simp [reserveSlot, State.withLog_outside]

@[simp] theorem releaseSlot_outside (n : Nat) (s : State) : (releaseSlot n s).outside = s.outside := by
  simp [releaseSlot, State.withLog_outside]

@[simp] theorem completeInto_outside (slot : Nat) (damaged : Bool) (body : RecordBody) (s : State) :
    (completeInto slot damaged body s).outside = s.outside := rfl

@[simp] theorem writeDirect_outside (body : RecordBody) (s : State) : (writeDirect body s).outside = s.outside := by
  simp [writeDirect]

/-! ## Accounts -/

@[simp] theorem raiseService_outside (n life : Nat) (e : ServiceEntry) (after : ServiceState) (s : State) :
    (raiseService n life e after s).outside = s.outside := by
  unfold raiseService
  repeat' split
  all_goals simp

@[simp] theorem evaluateServices_outside (n : Nat) (s : State) : (evaluateServices n s).outside = s.outside := by
  unfold evaluateServices
  split
  · rfl
  · dsimp only
    rw [foldl_keeps (g := State.outside) (fun s e => by simp)]
    simp

@[simp] theorem takeReading_outside (n : Nat) (a : Account) (h : Nat) (s : State) :
    (takeReading n a h s).1.outside = s.outside := by
  unfold takeReading
  split <;> simp

@[simp] theorem closeBurn_outside (n d : Nat) (s : State) : (closeBurn n d s).outside = s.outside := by
  unfold closeBurn
  dsimp only
  repeat' split
  all_goals simp

@[simp] theorem accountVisitEnded_outside (n : Nat) (hour : HourState) (delta : Option Nat) (s : State) :
    (accountVisitEnded n hour delta s).outside = s.outside := by
  unfold accountVisitEnded
  repeat' split
  all_goals simp

@[simp] theorem accountSave_outside (n : Nat) (c : ProductClass) (q : Nat) (s : State) :
    (accountSave n c q s).outside = s.outside := by
  simp [accountSave]

@[simp] theorem serviceByDispense_outside (n : Nat) (c : ProductClass) (s : State) :
    (serviceByDispense n c s).outside = s.outside := by
  unfold serviceByDispense
  repeat' split
  all_goals simp

/-! ## Island lines and visits -/

@[simp] theorem lineService_outside (i : Nat) (s : State) : (lineService i s).outside = s.outside := by
  unfold lineService
  dsimp only
  repeat' split
  all_goals simp

@[simp] theorem requestDisplay_outside (i : Nat) (code : DisplayCode) (arg : Nat) (s : State) :
    (requestDisplay i code arg s).outside = s.outside := by
  unfold requestDisplay
  dsimp only
  repeat' split
  all_goals simp

@[simp] theorem requestStanding_outside (i : Nat) (closed : Bool) (s : State) :
    (requestStanding i closed s).outside = s.outside := by
  unfold requestStanding
  repeat' split
  all_goals simp

@[simp] theorem lineFails_outside (i kind code : Nat) (s : State) :
    (lineFails i kind code s).outside = s.outside := by
  unfold lineFails
  dsimp only
  repeat' split
  all_goals simp

@[simp] theorem lineOnline_outside (i : Nat) (s : State) : (lineOnline i s).outside = s.outside := by
  unfold lineOnline
  dsimp only
  repeat' split
  all_goals simp

@[simp] theorem endPoll_outside (i : Nat) (s : State) : (endPoll i s).outside = s.outside := by
  simp [endPoll]

@[simp] theorem farewell_outside (i : Nat) (v : Visit) (reason : VisitEnd) (atTag : Bool) (s : State) :
    (farewell i v reason atTag s).outside = s.outside := by
  unfold farewell
  repeat' split
  all_goals simp

@[simp] theorem endVisit_outside (i : Nat) (reason : VisitEnd) (atTag : Bool) (s : State) :
    (endVisit i reason atTag s).outside = s.outside := by
  unfold endVisit
  dsimp only
  repeat' split
  all_goals simp

@[simp] theorem visitRefused_outside (i : Nat) (v : Visit) (required : Bool) (r : HoursRefusal) (s : State) :
    (visitRefused i v required r s).outside = s.outside := by
  unfold visitRefused
  dsimp only
  repeat' split
  all_goals simp

@[simp] theorem visitAccepted_outside (i : Nat) (v : Visit) (h delta : Nat) (s : State) :
    (visitAccepted i v h delta s).outside = s.outside := by
  simp [visitAccepted]

@[simp] theorem visitReading_outside (i h : Nat) (s : State) : (visitReading i h s).outside = s.outside := by
  unfold visitReading
  split
  · rfl
  split
  · rfl
  rename_i v _ _ a _
  have e := takeReading_outside v.account a h s
  split <;> simp_all

@[simp] theorem visitGrant_outside (i point : Nat) (s : State) : (visitGrant i point s).outside = s.outside := by
  unfold visitGrant
  dsimp only
  repeat' split
  all_goals simp

@[simp] theorem visitDispenseEnded_outside (i point : Nat) (s : State) :
    (visitDispenseEnded i point s).outside = s.outside := by
  unfold visitDispenseEnded
  dsimp only
  repeat' split
  all_goals simp

/-! ## Points, tanks and pumps -/

@[simp] theorem openWindow_outside (t : Nat) (s : State) : (openWindow t s).outside = s.outside := by
  unfold openWindow
  dsimp only
  repeat' split
  all_goals simp

@[simp] theorem settleReview_outside (t : Nat) (s : State) : (settleReview t s).outside = s.outside := by
  unfold settleReview
  dsimp only
  repeat' split
  all_goals simp

@[simp] theorem stopSettle_outside (t : Nat) (s : State) : (stopSettle t s).outside = s.outside := by
  simp [stopSettle]

@[simp] theorem saveCore_outside (i : Nat) (s : State) : (saveCore i s).outside = s.outside := by
  unfold saveCore
  split
  · rfl
  dsimp only
  split <;> simp

@[simp] theorem pumpReview_outside (t : Nat) (s : State) : (pumpReview t s).outside = s.outside := by
  unfold pumpReview
  dsimp only
  repeat' split
  all_goals simp

@[simp] theorem closeCore_outside (i : Nat) (code : EndCode) (s : State) :
    (closeCore i code s).outside = s.outside := by
  simp [closeCore]

@[simp] theorem evalLow_outside (t : Nat) (s : State) : (evalLow t s).outside = s.outside := by
  unfold evalLow
  split
  · apply foldl_keeps
    intro s i
    split <;> simp
  · rfl

@[simp] theorem evalIfBook_outside (t : Nat) (s : State) : (evalIfBook t s).outside = s.outside := by
  unfold evalIfBook
  repeat' split
  all_goals simp

@[simp] theorem save_outside (i : Nat) (s : State) : (save i s).outside = s.outside := by
  simp [save]

@[simp] theorem enterClosing_outside (i : Nat) (code : EndCode) (s : State) :
    (enterClosing i code s).outside = s.outside := by
  simp [enterClosing]

@[simp] theorem enterFlowing_outside (i : Nat) (s : State) : (enterFlowing i s).outside = s.outside := by
  simp [enterFlowing]

@[simp] theorem tellRunning_outside (i : Nat) (s : State) : (tellRunning i s).outside = s.outside := by
  unfold tellRunning
  repeat' split
  all_goals simp

@[simp] theorem pumpSeen_outside (t : Nat) (s : State) : (pumpSeen t s).outside = s.outside := by
  unfold pumpSeen
  dsimp only
  rw [foldl_keeps (g := State.outside) (fun s i => by simp)]
  simp

@[simp] theorem pumpStart_outside (t : Nat) (s : State) : (pumpStart t s).outside = s.outside := by
  unfold pumpStart
  dsimp only
  repeat' split
  all_goals simp

@[simp] theorem requestPump_outside (i : Nat) (s : State) : (requestPump i s).outside = s.outside := by
  unfold requestPump
  dsimp only
  repeat' split
  all_goals simp

@[simp] theorem pumpFails_outside (t : Nat) (told : PointState → Bool) (detail : Nat) (s : State) :
    (pumpFails t told detail s).outside = s.outside := by
  unfold pumpFails
  dsimp only
  rw [raise_outside, foldl_keeps (g := State.outside) (fun s i => by split <;> simp)]
  simp

@[simp] theorem pumpStopped_outside (t : Nat) (s : State) : (pumpStopped t s).outside = s.outside := by
  unfold pumpStopped
  dsimp only
  repeat' split
  all_goals simp

@[simp] theorem enterStarting_outside (i : Nat) (s : State) : (enterStarting i s).outside = s.outside := by
  simp [enterStarting]

@[simp] theorem enterHeld_outside (i : Nat) (s : State) : (enterHeld i s).outside = s.outside := by
  simp [enterHeld]

@[simp] theorem holdReview_outside (i : Nat) (s : State) : (holdReview i s).outside = s.outside := by
  unfold holdReview
  dsimp only
  repeat' split
  all_goals simp

@[simp] theorem takeGrant_outside (i : Nat) (g : Grant) (s : State) : (takeGrant i g s).outside = s.outside := by
  simp [takeGrant]

@[simp] theorem dropGrant_outside (i : Nat) (s : State) : (dropGrant i s).outside = s.outside := by
  simp [dropGrant]

@[simp] theorem dropFor_outside (i detail : Nat) (s : State) : (dropFor i detail s).outside = s.outside := by
  simp [dropFor]

@[simp] theorem startDispense_outside (i : Nat) (s : State) : (startDispense i s).outside = s.outside := by
  unfold startDispense
  dsimp only
  repeat' split
  all_goals simp

@[simp] theorem takePassing_outside (i : Nat) (s : State) : (takePassing i s).outside = s.outside := by
  simp [takePassing]

@[simp] theorem setPassing_outside (i : Nat) (s : State) : (setPassing i s).outside = s.outside := by
  unfold setPassing
  dsimp only
  repeat' split
  all_goals simp

@[simp] theorem pointEnded_outside (i ticket : Nat) (code : EndCode) (s : State) :
    (pointEnded i ticket code s).outside = s.outside := by
  unfold pointEnded
  dsimp only
  repeat' split
  all_goals simp

@[simp] theorem completeDispense_outside (i : Nat) (s : State) : (completeDispense i s).outside = s.outside := by
  unfold completeDispense
  dsimp only
  repeat' split
  all_goals simp

@[simp] theorem pointZoneLeft_outside (i : Nat) (s : State) : (pointZoneLeft i s).outside = s.outside := by
  unfold pointZoneLeft
  repeat' split
  all_goals simp

@[simp] theorem pointZoneNormal_outside (i : Nat) (s : State) : (pointZoneNormal i s).outside = s.outside := by
  unfold pointZoneNormal
  repeat' split
  all_goals simp

@[simp] theorem pointShutdown_outside (i detail : Nat) (s : State) :
    (pointShutdown i detail s).outside = s.outside := by
  unfold pointShutdown
  repeat' split
  all_goals simp

@[simp] theorem pulseSave_outside (i : Nat) (s : State) : (pulseSave i s).outside = s.outside := by
  unfold pulseSave
  dsimp only
  repeat' split
  all_goals simp

@[simp] theorem pulseFlowing_outside (i : Nat) (s : State) : (pulseFlowing i s).outside = s.outside := by
  unfold pulseFlowing
  dsimp only
  repeat' split
  all_goals simp

/-! ## Deliveries -/

@[simp] theorem stationSave_outside (n : Nat) (s : State) : (stationSave n s).outside = s.outside := by
  unfold stationSave
  dsimp only
  repeat' split
  all_goals simp

@[simp] theorem enterFilling_outside (n : Nat) (s : State) : (enterFilling n s).outside = s.outside := by
  unfold enterFilling
  dsimp only
  repeat' split
  all_goals simp

@[simp] theorem enterPaused_outside (n : Nat) (s : State) : (enterPaused n s).outside = s.outside := by
  unfold enterPaused
  dsimp only
  repeat' split
  all_goals simp

@[simp] theorem enterSettling_outside (n : Nat) (code : EndCode) (s : State) :
    (enterSettling n code s).outside = s.outside := by
  unfold enterSettling
  dsimp only
  repeat' split
  all_goals simp

@[simp] theorem raiseDeliveryEnd_outside (n : Nat) (code : EndCode) (net : Nat) (s : State) :
    (raiseDeliveryEnd n code net s).outside = s.outside := by
  unfold raiseDeliveryEnd
  dsimp only
  repeat' split
  all_goals simp

@[simp] theorem completeDelivery_outside (n : Nat) (s : State) : (completeDelivery n s).outside = s.outside := by
  unfold completeDelivery
  dsimp only
  repeat' split
  all_goals simp

@[simp] theorem deliverySample_outside (t : Nat) (s : State) : (deliverySample t s).outside = s.outside := by
  unfold deliverySample
  dsimp only
  repeat' split
  all_goals simp

@[simp] theorem stationZoneLeft_outside (n : Nat) (s : State) : (stationZoneLeft n s).outside = s.outside := by
  unfold stationZoneLeft
  repeat' split
  all_goals simp

@[simp] theorem stationZoneNormal_outside (n : Nat) (s : State) : (stationZoneNormal n s).outside = s.outside := by
  unfold stationZoneNormal
  dsimp only
  repeat' split
  all_goals simp

@[simp] theorem stationShutdown_outside (n : Nat) (s : State) : (stationShutdown n s).outside = s.outside := by
  unfold stationShutdown
  repeat' split
  all_goals simp

@[simp] theorem deliveryOverfill_outside (t : Nat) (s : State) : (deliveryOverfill t s).outside = s.outside := by
  unfold deliveryOverfill
  dsimp only
  repeat' split
  all_goals simp

/-! ## The Spill Monitor -/

/-- Neighbours told keep what each of them keeps. -/
theorem tell_keeps {β : Type} {g : State → β} {fp ft fs : Nat → State → State} (hp : ∀ i s, g (fp i s) = g s)
    (ht : ∀ i s, g (ft i s) = g s) (hs : ∀ i s, g (fs i s) = g s) (points tanks stations : List Nat) (s : State) :
    g (tell points tanks stations fp ft fs s) = g s := by
  unfold tell
  rw [foldl_keeps fun s n => hs n s, foldl_keeps fun s n => ht n s, foldl_keeps fun s n => hp n s]

/-- Changes of the Spill Monitor's own records alone. -/
theorem State.withBay_outside (s : State) (b : Bay) : ({ s with bay := b } : State).outside = s.outside := rfl
theorem State.withZones_outside (s : State) (b : Bank Zone 6) : ({ s with zones := b } : State).outside = s.outside :=
  rfl
theorem State.withOverfill_outside (s : State) (b : Bank (Option Line) 8) :
    ({ s with overfill := b } : State).outside = s.outside := rfl
theorem State.withBypasses_outside (s : State) (l : List Bypass) :
    ({ s with bypasses := l } : State).outside = s.outside := rfl

@[simp] theorem tellLeft_outside (z : Nat) (s : State) : (tellLeft z s).outside = s.outside := by
  exact tell_keeps (fun i s => by simp) (fun i s => by simp) (fun i s => by simp) _ _ _ s

@[simp] theorem tellNormal_outside (z : Nat) (s : State) : (tellNormal z s).outside = s.outside := by
  exact tell_keeps (fun i s => by simp) (fun i s => rfl) (fun i s => by simp) _ _ _ s

@[simp] theorem tellShutdown_outside (z : Nat) (s : State) : (tellShutdown z s).outside = s.outside := by
  exact tell_keeps (fun i s => by simp) (fun i s => by simp) (fun i s => by simp) _ _ _ s

@[simp] theorem tellBayStop_outside  (s : State) : (tellBayStop  s).outside = s.outside := by
  exact tell_keeps (fun i s => by simp) (fun i s => by simp) (fun i s => by simp) _ _ _ s

@[simp] theorem bayCauseWith_outside (told : Bool) (kind : CauseKind) (subject : Nat) (s : State) :
    (bayCauseWith told kind subject s).outside = s.outside := by
  unfold bayCauseWith
  dsimp only
  repeat' split
  all_goals simp [State.withBay_outside]

@[simp] theorem bayCause_outside (kind : CauseKind) (subject : Nat) (s : State) :
    (bayCause kind subject s).outside = s.outside := by
  simp [bayCause]

@[simp] theorem escalate_outside (z : Nat) (s : State) : (escalate z s).outside = s.outside := by
  unfold escalate
  repeat' split
  all_goals simp

@[simp] theorem goSuspect_outside (z code subject : Nat) (s : State) :
    (goSuspect z code subject s).outside = s.outside := by
  simp [goSuspect]

@[simp] theorem goShutdown_outside (z code subject : Nat) (s : State) :
    (goShutdown z code subject s).outside = s.outside := by
  simp [goShutdown]

@[simp] theorem causeActs_outside (z : Nat) (kind : CauseKind) (subject : Nat) (s : State) :
    (causeActs z kind subject s).outside = s.outside := by
  unfold causeActs
  dsimp only
  repeat' split
  all_goals simp

@[simp] theorem causeArrives_outside (z : Nat) (kind : CauseKind) (subject : Nat) (s : State) :
    (causeArrives z kind subject s).outside = s.outside := by
  unfold causeArrives
  dsimp only
  repeat' split
  all_goals simp

@[simp] theorem goNormal_outside (z detail : Nat) (s : State) : (goNormal z detail s).outside = s.outside := by
  simp [goNormal]

@[simp] theorem confirmExpires_outside (z : Nat) (s : State) : (confirmExpires z s).outside = s.outside := by
  unfold confirmExpires
  repeat' split
  all_goals simp

@[simp] theorem markEverywhere_outside (kind : CauseKind) (subject : Nat) (active : Bool) (s : State) :
    (markEverywhere kind subject active s).outside = s.outside := by
  simp [markEverywhere, State.withZones_outside]

@[simp] theorem sumpChanged_outside (z : Nat) (old new : Option Line) (s : State) :
    (sumpChanged z old new s).outside = s.outside := by
  unfold sumpChanged
  dsimp only
  repeat' split
  all_goals simp

@[simp] theorem overfillChanged_outside (t : Nat) (old new : Option Line) (s : State) :
    (overfillChanged t old new s).outside = s.outside := by
  unfold overfillChanged
  dsimp only
  repeat' split
  all_goals simp

@[simp] theorem scanSump_outside (z : Nat) (new : Line) (s : State) : (scanSump z new s).outside = s.outside := by
  unfold scanSump
  dsimp only
  repeat' split
  all_goals simp

@[simp] theorem scanOverfill_outside (t : Nat) (new : Line) (s : State) :
    (scanOverfill t new s).outside = s.outside := by
  unfold scanOverfill
  dsimp only
  repeat' split
  all_goals simp [State.withOverfill_outside]

@[simp] theorem scanLines_outside (r : ScanReadings) (s : State) : (scanLines r s).outside = s.outside := by
  unfold scanLines
  dsimp only
  rw [State.withZones_outside, forEach_keeps (g := State.outside) (fun i s => by simp),
    forEach_keeps (g := State.outside) (fun i s => by simp)]

@[simp] theorem latchLine_outside (b : BypassInput) (s : State) : (latchLine b s).outside = s.outside := by
  unfold latchLine
  repeat' split
  all_goals simp

@[simp] theorem bypassEnds_outside (b : BypassInput) (manner : Nat) (s : State) :
    (bypassEnds b manner s).outside = s.outside := by
  unfold bypassEnds
  dsimp only
  repeat' split
  all_goals simp [State.withBypasses_outside]

@[simp] theorem zoneInput_outside (z : Nat) (pressed : Bool) (s : State) :
    (zoneInput z pressed s).outside = s.outside := by
  unfold zoneInput
  dsimp only
  repeat' split
  all_goals simp

@[simp] theorem bayInput_outside (pressed : Bool) (s : State) : (bayInput pressed s).outside = s.outside := by
  unfold bayInput
  dsimp only
  repeat' split
  all_goals simp [State.withBay_outside]

@[simp] theorem creepPulse_outside (i : Nat) (s : State) : (creepPulse i s).outside = s.outside := by
  unfold creepPulse
  dsimp only
  repeat' split
  all_goals simp

@[simp] theorem closingPassed_outside (i : Nat) (s : State) : (closingPassed i s).outside = s.outside := by
  simp [closingPassed]

@[simp] theorem rateWindowEnds_outside (i : Nat) (s : State) : (rateWindowEnds i s).outside = s.outside := by
  unfold rateWindowEnds
  dsimp only
  repeat' split
  all_goals simp

end Sys2Proof.Machine
end

