-- ==== Sys2Proof/Laws/Ops.lean ====
section
/-! SUPPORT. The shared operations, each said once: what a notice, a reply, a change of the log and the write group of an
event leave alone, and what they do. -/

namespace Sys2Proof.Machine

/-! ## Notices change nothing but the ports' queues -/

/-- Whatever an offer keeps, a notice raised to an audience keeps. -/
theorem raiseTo_keeps {β : Type} {g : State → β} (h : ∀ n p s, g (offer n p s) = g s) (aud : Audience) (kind : NoticeKind) (subject : SubjectKind)
    (number : Nat) (first second : Int) (s : State) :
    g (raiseTo aud kind subject number first second s) = g s := by
  unfold raiseTo
  apply foldl_keeps
  intro s p
  split
  · exact h _ _ _
  · rfl

@[simp] theorem raiseTo_mode (aud : Audience) (kind : NoticeKind) (subject : SubjectKind)
    (number : Nat) (first second : Int) (s : State) :
    (raiseTo aud kind subject number first second s).mode = s.mode := raiseTo_keeps (fun _ _ _ => rfl) ..
@[simp] theorem raiseTo_unreadable (aud : Audience) (kind : NoticeKind) (subject : SubjectKind)
    (number : Nat) (first second : Int) (s : State) :
    (raiseTo aud kind subject number first second s).unreadable = s.unreadable := raiseTo_keeps (fun _ _ _ => rfl) ..
@[simp] theorem raiseTo_env (aud : Audience) (kind : NoticeKind) (subject : SubjectKind)
    (number : Nat) (first second : Int) (s : State) :
    (raiseTo aud kind subject number first second s).env = s.env := raiseTo_keeps (fun _ _ _ => rfl) ..
@[simp] theorem raiseTo_roles (aud : Audience) (kind : NoticeKind) (subject : SubjectKind)
    (number : Nat) (first second : Int) (s : State) :
    (raiseTo aud kind subject number first second s).roles = s.roles := raiseTo_keeps (fun _ _ _ => rfl) ..
@[simp] theorem raiseTo_queueK (aud : Audience) (kind : NoticeKind) (subject : SubjectKind)
    (number : Nat) (first second : Int) (s : State) :
    (raiseTo aud kind subject number first second s).queueK = s.queueK := raiseTo_keeps (fun _ _ _ => rfl) ..
@[simp] theorem raiseTo_clock (aud : Audience) (kind : NoticeKind) (subject : SubjectKind)
    (number : Nat) (first second : Int) (s : State) :
    (raiseTo aud kind subject number first second s).clock = s.clock := raiseTo_keeps (fun _ _ _ => rfl) ..
@[simp] theorem raiseTo_products (aud : Audience) (kind : NoticeKind) (subject : SubjectKind)
    (number : Nat) (first second : Int) (s : State) :
    (raiseTo aud kind subject number first second s).products = s.products := raiseTo_keeps (fun _ _ _ => rfl) ..
@[simp] theorem raiseTo_tanks (aud : Audience) (kind : NoticeKind) (subject : SubjectKind)
    (number : Nat) (first second : Int) (s : State) :
    (raiseTo aud kind subject number first second s).tanks = s.tanks := raiseTo_keeps (fun _ _ _ => rfl) ..
@[simp] theorem raiseTo_points (aud : Audience) (kind : NoticeKind) (subject : SubjectKind)
    (number : Nat) (first second : Int) (s : State) :
    (raiseTo aud kind subject number first second s).points = s.points := raiseTo_keeps (fun _ _ _ => rfl) ..
@[simp] theorem raiseTo_islands (aud : Audience) (kind : NoticeKind) (subject : SubjectKind)
    (number : Nat) (first second : Int) (s : State) :
    (raiseTo aud kind subject number first second s).islands = s.islands := raiseTo_keeps (fun _ _ _ => rfl) ..
@[simp] theorem raiseTo_accounts (aud : Audience) (kind : NoticeKind) (subject : SubjectKind)
    (number : Nat) (first second : Int) (s : State) :
    (raiseTo aud kind subject number first second s).accounts = s.accounts := raiseTo_keeps (fun _ _ _ => rfl) ..
@[simp] theorem raiseTo_stations (aud : Audience) (kind : NoticeKind) (subject : SubjectKind)
    (number : Nat) (first second : Int) (s : State) :
    (raiseTo aud kind subject number first second s).stations = s.stations := raiseTo_keeps (fun _ _ _ => rfl) ..
@[simp] theorem raiseTo_probeLast (aud : Audience) (kind : NoticeKind) (subject : SubjectKind)
    (number : Nat) (first second : Int) (s : State) :
    (raiseTo aud kind subject number first second s).probeLast = s.probeLast := raiseTo_keeps (fun _ _ _ => rfl) ..
@[simp] theorem raiseTo_zones (aud : Audience) (kind : NoticeKind) (subject : SubjectKind)
    (number : Nat) (first second : Int) (s : State) :
    (raiseTo aud kind subject number first second s).zones = s.zones := raiseTo_keeps (fun _ _ _ => rfl) ..
@[simp] theorem raiseTo_overfill (aud : Audience) (kind : NoticeKind) (subject : SubjectKind)
    (number : Nat) (first second : Int) (s : State) :
    (raiseTo aud kind subject number first second s).overfill = s.overfill := raiseTo_keeps (fun _ _ _ => rfl) ..
@[simp] theorem raiseTo_bay (aud : Audience) (kind : NoticeKind) (subject : SubjectKind)
    (number : Nat) (first second : Int) (s : State) :
    (raiseTo aud kind subject number first second s).bay = s.bay := raiseTo_keeps (fun _ _ _ => rfl) ..
@[simp] theorem raiseTo_bypasses (aud : Audience) (kind : NoticeKind) (subject : SubjectKind)
    (number : Nat) (first second : Int) (s : State) :
    (raiseTo aud kind subject number first second s).bypasses = s.bypasses := raiseTo_keeps (fun _ _ _ => rfl) ..
@[simp] theorem raiseTo_log (aud : Audience) (kind : NoticeKind) (subject : SubjectKind)
    (number : Nat) (first second : Int) (s : State) :
    (raiseTo aud kind subject number first second s).log = s.log := raiseTo_keeps (fun _ _ _ => rfl) ..
@[simp] theorem raiseTo_portLog (aud : Audience) (kind : NoticeKind) (subject : SubjectKind)
    (number : Nat) (first second : Int) (s : State) :
    (raiseTo aud kind subject number first second s).portLog = s.portLog := raiseTo_keeps (fun _ _ _ => rfl) ..
@[simp] theorem raiseTo_skipped (aud : Audience) (kind : NoticeKind) (subject : SubjectKind)
    (number : Nat) (first second : Int) (s : State) :
    (raiseTo aud kind subject number first second s).skipped = s.skipped := raiseTo_keeps (fun _ _ _ => rfl) ..
@[simp] theorem raiseTo_inflight (aud : Audience) (kind : NoticeKind) (subject : SubjectKind)
    (number : Nat) (first second : Int) (s : State) :
    (raiseTo aud kind subject number first second s).inflight = s.inflight := raiseTo_keeps (fun _ _ _ => rfl) ..
@[simp] theorem raiseTo_mem (aud : Audience) (kind : NoticeKind) (subject : SubjectKind)
    (number : Nat) (first second : Int) (s : State) :
    (raiseTo aud kind subject number first second s).mem = s.mem := raiseTo_keeps (fun _ _ _ => rfl) ..
@[simp] theorem raiseTo_touched (aud : Audience) (kind : NoticeKind) (subject : SubjectKind)
    (number : Nat) (first second : Int) (s : State) :
    (raiseTo aud kind subject number first second s).touched = s.touched := raiseTo_keeps (fun _ _ _ => rfl) ..
@[simp] theorem raiseTo_freeCount (aud : Audience) (kind : NoticeKind) (subject : SubjectKind)
    (number : Nat) (first second : Int) (s : State) :
    (raiseTo aud kind subject number first second s).freeCount = s.freeCount := raiseTo_keeps (fun _ _ _ => rfl) ..
@[simp] theorem raiseTo_pending (aud : Audience) (kind : NoticeKind) (subject : SubjectKind)
    (number : Nat) (first second : Int) (s : State) :
    (raiseTo aud kind subject number first second s).pending = s.pending := raiseTo_keeps (fun _ _ _ => rfl) ..
@[simp] theorem raise_mode (kind : NoticeKind) (subject : SubjectKind) (number : Nat) (first second : Int) (s : State) :
    (raise kind subject number first second s).mode = s.mode := raiseTo_mode ..
@[simp] theorem raise_unreadable (kind : NoticeKind) (subject : SubjectKind) (number : Nat) (first second : Int) (s : State) :
    (raise kind subject number first second s).unreadable = s.unreadable := raiseTo_unreadable ..
@[simp] theorem raise_env (kind : NoticeKind) (subject : SubjectKind) (number : Nat) (first second : Int) (s : State) :
    (raise kind subject number first second s).env = s.env := raiseTo_env ..
@[simp] theorem raise_roles (kind : NoticeKind) (subject : SubjectKind) (number : Nat) (first second : Int) (s : State) :
    (raise kind subject number first second s).roles = s.roles := raiseTo_roles ..
@[simp] theorem raise_queueK (kind : NoticeKind) (subject : SubjectKind) (number : Nat) (first second : Int) (s : State) :
    (raise kind subject number first second s).queueK = s.queueK := raiseTo_queueK ..
@[simp] theorem raise_clock (kind : NoticeKind) (subject : SubjectKind) (number : Nat) (first second : Int) (s : State) :
    (raise kind subject number first second s).clock = s.clock := raiseTo_clock ..
@[simp] theorem raise_products (kind : NoticeKind) (subject : SubjectKind) (number : Nat) (first second : Int) (s : State) :
    (raise kind subject number first second s).products = s.products := raiseTo_products ..
@[simp] theorem raise_tanks (kind : NoticeKind) (subject : SubjectKind) (number : Nat) (first second : Int) (s : State) :
    (raise kind subject number first second s).tanks = s.tanks := raiseTo_tanks ..
@[simp] theorem raise_points (kind : NoticeKind) (subject : SubjectKind) (number : Nat) (first second : Int) (s : State) :
    (raise kind subject number first second s).points = s.points := raiseTo_points ..
@[simp] theorem raise_islands (kind : NoticeKind) (subject : SubjectKind) (number : Nat) (first second : Int) (s : State) :
    (raise kind subject number first second s).islands = s.islands := raiseTo_islands ..
@[simp] theorem raise_accounts (kind : NoticeKind) (subject : SubjectKind) (number : Nat) (first second : Int) (s : State) :
    (raise kind subject number first second s).accounts = s.accounts := raiseTo_accounts ..
@[simp] theorem raise_stations (kind : NoticeKind) (subject : SubjectKind) (number : Nat) (first second : Int) (s : State) :
    (raise kind subject number first second s).stations = s.stations := raiseTo_stations ..
@[simp] theorem raise_probeLast (kind : NoticeKind) (subject : SubjectKind) (number : Nat) (first second : Int) (s : State) :
    (raise kind subject number first second s).probeLast = s.probeLast := raiseTo_probeLast ..
@[simp] theorem raise_zones (kind : NoticeKind) (subject : SubjectKind) (number : Nat) (first second : Int) (s : State) :
    (raise kind subject number first second s).zones = s.zones := raiseTo_zones ..
@[simp] theorem raise_overfill (kind : NoticeKind) (subject : SubjectKind) (number : Nat) (first second : Int) (s : State) :
    (raise kind subject number first second s).overfill = s.overfill := raiseTo_overfill ..
@[simp] theorem raise_bay (kind : NoticeKind) (subject : SubjectKind) (number : Nat) (first second : Int) (s : State) :
    (raise kind subject number first second s).bay = s.bay := raiseTo_bay ..
@[simp] theorem raise_bypasses (kind : NoticeKind) (subject : SubjectKind) (number : Nat) (first second : Int) (s : State) :
    (raise kind subject number first second s).bypasses = s.bypasses := raiseTo_bypasses ..
@[simp] theorem raise_log (kind : NoticeKind) (subject : SubjectKind) (number : Nat) (first second : Int) (s : State) :
    (raise kind subject number first second s).log = s.log := raiseTo_log ..
@[simp] theorem raise_portLog (kind : NoticeKind) (subject : SubjectKind) (number : Nat) (first second : Int) (s : State) :
    (raise kind subject number first second s).portLog = s.portLog := raiseTo_portLog ..
@[simp] theorem raise_skipped (kind : NoticeKind) (subject : SubjectKind) (number : Nat) (first second : Int) (s : State) :
    (raise kind subject number first second s).skipped = s.skipped := raiseTo_skipped ..
@[simp] theorem raise_inflight (kind : NoticeKind) (subject : SubjectKind) (number : Nat) (first second : Int) (s : State) :
    (raise kind subject number first second s).inflight = s.inflight := raiseTo_inflight ..
@[simp] theorem raise_mem (kind : NoticeKind) (subject : SubjectKind) (number : Nat) (first second : Int) (s : State) :
    (raise kind subject number first second s).mem = s.mem := raiseTo_mem ..
@[simp] theorem raise_touched (kind : NoticeKind) (subject : SubjectKind) (number : Nat) (first second : Int) (s : State) :
    (raise kind subject number first second s).touched = s.touched := raiseTo_touched ..
@[simp] theorem raise_freeCount (kind : NoticeKind) (subject : SubjectKind) (number : Nat) (first second : Int) (s : State) :
    (raise kind subject number first second s).freeCount = s.freeCount := raiseTo_freeCount ..
@[simp] theorem raise_pending (kind : NoticeKind) (subject : SubjectKind) (number : Nat) (first second : Int) (s : State) :
    (raise kind subject number first second s).pending = s.pending := raiseTo_pending ..
@[simp] theorem raise_tank (kind : NoticeKind) (subject : SubjectKind) (number : Nat) (first second : Int) (s : State)
    (t : Nat) : (raise kind subject number first second s).tank t = s.tank t := by
  simp [State.tank]
@[simp] theorem raise_point (kind : NoticeKind) (subject : SubjectKind) (number : Nat) (first second : Int) (s : State)
    (i : Nat) : (raise kind subject number first second s).point i = s.point i := by
  simp [State.point]
@[simp] theorem raise_island (kind : NoticeKind) (subject : SubjectKind) (number : Nat) (first second : Int) (s : State)
    (i : Nat) : (raise kind subject number first second s).island i = s.island i := by
  simp [State.island]
@[simp] theorem raise_station (kind : NoticeKind) (subject : SubjectKind) (number : Nat) (first second : Int) (s : State)
    (n : Nat) : (raise kind subject number first second s).station n = s.station n := by
  simp [State.station]
@[simp] theorem raise_zone (kind : NoticeKind) (subject : SubjectKind) (number : Nat) (first second : Int) (s : State)
    (z : Nat) : (raise kind subject number first second s).zone z = s.zone z := by
  simp [State.zone]
@[simp] theorem raise_product (kind : NoticeKind) (subject : SubjectKind) (number : Nat) (first second : Int) (s : State)
    (n : Nat) : (raise kind subject number first second s).product n = s.product n := by
  simp [State.product]
@[simp] theorem raise_entry (kind : NoticeKind) (subject : SubjectKind) (number : Nat) (first second : Int) (s : State)
    (n : Nat) : (raise kind subject number first second s).entry n = s.entry n := by
  simp [State.entry]
@[simp] theorem raise_account? (kind : NoticeKind) (subject : SubjectKind) (number : Nat) (first second : Int) (s : State)
    (n : Nat) : (raise kind subject number first second s).account? n = s.account? n := by
  simp [State.account?]
@[simp] theorem raise_rolesOf (kind : NoticeKind) (subject : SubjectKind) (number : Nat) (first second : Int) (s : State)
    (p : PortId) : (raise kind subject number first second s).rolesOf p = s.rolesOf p := by
  simp [State.rolesOf]
@[simp] theorem raise_queueLength (kind : NoticeKind) (subject : SubjectKind) (number : Nat) (first second : Int) (s : State)
    (p : PortId) : (raise kind subject number first second s).queueLength p = s.queueLength p := by
  simp [State.queueLength]
@[simp] theorem raise_logOf (kind : NoticeKind) (subject : SubjectKind) (number : Nat) (first second : Int) (s : State)
    (p : PortId) : (raise kind subject number first second s).logOf p = s.logOf p := by
  simp [State.logOf]
@[simp] theorem raise_skippedOf (kind : NoticeKind) (subject : SubjectKind) (number : Nat) (first second : Int) (s : State)
    (p : PortId) : (raise kind subject number first second s).skippedOf p = s.skippedOf p := by
  simp [State.skippedOf]

@[simp] theorem raise_now (kind : NoticeKind) (subject : SubjectKind) (number : Nat) (first second : Int) (s : State) :
    (raise kind subject number first second s).now = s.now := by simp [State.now]

/-- A notice changes only the ports. -/
theorem raise_eq (kind : NoticeKind) (subject : SubjectKind) (number : Nat) (first second : Int) (s : State) :
    raise kind subject number first second s =
      { s with ports := (raise kind subject number first second s).ports } := by
  have h : ∀ t : State, t = { t with ports := t.ports } := fun _ => rfl
  have e := raiseTo_keeps (g := fun t : State => { t with ports := s.ports }) (fun _ _ _ => rfl)
    (audienceOf kind) kind subject number first second s
  have e' := congrArg (fun t : State => { t with ports := (raise kind subject number first second s).ports }) e
  exact e'

/-! ## The low-space warning changes nothing but the queues and its armed mark -/

@[simp] theorem judgeSpace_mode (s : State) :
    (judgeSpace s).mode = s.mode := by
  unfold judgeSpace; repeat' split
  all_goals simp
@[simp] theorem judgeSpace_unreadable (s : State) :
    (judgeSpace s).unreadable = s.unreadable := by
  unfold judgeSpace; repeat' split
  all_goals simp
@[simp] theorem judgeSpace_env (s : State) :
    (judgeSpace s).env = s.env := by
  unfold judgeSpace; repeat' split
  all_goals simp
@[simp] theorem judgeSpace_roles (s : State) :
    (judgeSpace s).roles = s.roles := by
  unfold judgeSpace; repeat' split
  all_goals simp
@[simp] theorem judgeSpace_queueK (s : State) :
    (judgeSpace s).queueK = s.queueK := by
  unfold judgeSpace; repeat' split
  all_goals simp
@[simp] theorem judgeSpace_clock (s : State) :
    (judgeSpace s).clock = s.clock := by
  unfold judgeSpace; repeat' split
  all_goals simp
@[simp] theorem judgeSpace_products (s : State) :
    (judgeSpace s).products = s.products := by
  unfold judgeSpace; repeat' split
  all_goals simp
@[simp] theorem judgeSpace_tanks (s : State) :
    (judgeSpace s).tanks = s.tanks := by
  unfold judgeSpace; repeat' split
  all_goals simp
@[simp] theorem judgeSpace_points (s : State) :
    (judgeSpace s).points = s.points := by
  unfold judgeSpace; repeat' split
  all_goals simp
@[simp] theorem judgeSpace_islands (s : State) :
    (judgeSpace s).islands = s.islands := by
  unfold judgeSpace; repeat' split
  all_goals simp
@[simp] theorem judgeSpace_accounts (s : State) :
    (judgeSpace s).accounts = s.accounts := by
  unfold judgeSpace; repeat' split
  all_goals simp
@[simp] theorem judgeSpace_stations (s : State) :
    (judgeSpace s).stations = s.stations := by
  unfold judgeSpace; repeat' split
  all_goals simp
@[simp] theorem judgeSpace_probeLast (s : State) :
    (judgeSpace s).probeLast = s.probeLast := by
  unfold judgeSpace; repeat' split
  all_goals simp
@[simp] theorem judgeSpace_zones (s : State) :
    (judgeSpace s).zones = s.zones := by
  unfold judgeSpace; repeat' split
  all_goals simp
@[simp] theorem judgeSpace_overfill (s : State) :
    (judgeSpace s).overfill = s.overfill := by
  unfold judgeSpace; repeat' split
  all_goals simp
@[simp] theorem judgeSpace_bay (s : State) :
    (judgeSpace s).bay = s.bay := by
  unfold judgeSpace; repeat' split
  all_goals simp
@[simp] theorem judgeSpace_bypasses (s : State) :
    (judgeSpace s).bypasses = s.bypasses := by
  unfold judgeSpace; repeat' split
  all_goals simp
@[simp] theorem judgeSpace_portLog (s : State) :
    (judgeSpace s).portLog = s.portLog := by
  unfold judgeSpace; repeat' split
  all_goals simp
@[simp] theorem judgeSpace_skipped (s : State) :
    (judgeSpace s).skipped = s.skipped := by
  unfold judgeSpace; repeat' split
  all_goals simp
@[simp] theorem judgeSpace_inflight (s : State) :
    (judgeSpace s).inflight = s.inflight := by
  unfold judgeSpace; repeat' split
  all_goals simp
@[simp] theorem judgeSpace_mem (s : State) :
    (judgeSpace s).mem = s.mem := by
  unfold judgeSpace; repeat' split
  all_goals simp
@[simp] theorem judgeSpace_touched (s : State) :
    (judgeSpace s).touched = s.touched := by
  unfold judgeSpace; repeat' split
  all_goals simp
@[simp] theorem judgeSpace_freeCount (s : State) :
    (judgeSpace s).freeCount = s.freeCount := by
  unfold judgeSpace; repeat' split
  all_goals simp
@[simp] theorem judgeSpace_pending (s : State) :
    (judgeSpace s).pending = s.pending := by
  unfold judgeSpace; repeat' split
  all_goals simp
@[simp] theorem judgeSpace_tank (s : State) (t : Nat) : (judgeSpace s).tank t = s.tank t := by simp [State.tank]
@[simp] theorem judgeSpace_point (s : State) (i : Nat) : (judgeSpace s).point i = s.point i := by simp [State.point]
@[simp] theorem judgeSpace_island (s : State) (i : Nat) :
    (judgeSpace s).island i = s.island i := by simp [State.island]
@[simp] theorem judgeSpace_station (s : State) (n : Nat) :
    (judgeSpace s).station n = s.station n := by simp [State.station]
@[simp] theorem judgeSpace_zone (s : State) (z : Nat) : (judgeSpace s).zone z = s.zone z := by simp [State.zone]
@[simp] theorem judgeSpace_product (s : State) (n : Nat) :
    (judgeSpace s).product n = s.product n := by simp [State.product]
@[simp] theorem judgeSpace_entry (s : State) (n : Nat) : (judgeSpace s).entry n = s.entry n := by simp [State.entry]
@[simp] theorem judgeSpace_account? (s : State) (n : Nat) :
    (judgeSpace s).account? n = s.account? n := by simp [State.account?]
@[simp] theorem judgeSpace_rolesOf (s : State) (p : PortId) :
    (judgeSpace s).rolesOf p = s.rolesOf p := by simp [State.rolesOf]
@[simp] theorem judgeSpace_queueLength (s : State) (p : PortId) :
    (judgeSpace s).queueLength p = s.queueLength p := by simp [State.queueLength]
@[simp] theorem judgeSpace_logOf (s : State) (p : PortId) :
    (judgeSpace s).logOf p = s.logOf p := by simp [State.logOf]
@[simp] theorem judgeSpace_skippedOf (s : State) (p : PortId) :
    (judgeSpace s).skippedOf p = s.skippedOf p := by simp [State.skippedOf]
@[simp] theorem judgeSpace_held (s : State) :
    (judgeSpace s).log.held = s.log.held := by
  unfold judgeSpace; repeat' split
  all_goals simp
@[simp] theorem judgeSpace_reserved (s : State) :
    (judgeSpace s).log.reserved = s.log.reserved := by
  unfold judgeSpace; repeat' split
  all_goals simp
@[simp] theorem judgeSpace_ticket (s : State) :
    (judgeSpace s).log.ticket = s.log.ticket := by
  unfold judgeSpace; repeat' split
  all_goals simp

/-! ## Replies change nothing but one port -/

@[simp] theorem beginReply_mode (p : PortId) (c : Byte) (a : Answer) (s : State) :
    (beginReply p c a s).mode = s.mode := rfl
@[simp] theorem beginReply_unreadable (p : PortId) (c : Byte) (a : Answer) (s : State) :
    (beginReply p c a s).unreadable = s.unreadable := rfl
@[simp] theorem beginReply_env (p : PortId) (c : Byte) (a : Answer) (s : State) :
    (beginReply p c a s).env = s.env := rfl
@[simp] theorem beginReply_roles (p : PortId) (c : Byte) (a : Answer) (s : State) :
    (beginReply p c a s).roles = s.roles := rfl
@[simp] theorem beginReply_queueK (p : PortId) (c : Byte) (a : Answer) (s : State) :
    (beginReply p c a s).queueK = s.queueK := rfl
@[simp] theorem beginReply_clock (p : PortId) (c : Byte) (a : Answer) (s : State) :
    (beginReply p c a s).clock = s.clock := rfl
@[simp] theorem beginReply_products (p : PortId) (c : Byte) (a : Answer) (s : State) :
    (beginReply p c a s).products = s.products := rfl
@[simp] theorem beginReply_tanks (p : PortId) (c : Byte) (a : Answer) (s : State) :
    (beginReply p c a s).tanks = s.tanks := rfl
@[simp] theorem beginReply_points (p : PortId) (c : Byte) (a : Answer) (s : State) :
    (beginReply p c a s).points = s.points := rfl
@[simp] theorem beginReply_islands (p : PortId) (c : Byte) (a : Answer) (s : State) :
    (beginReply p c a s).islands = s.islands := rfl
@[simp] theorem beginReply_accounts (p : PortId) (c : Byte) (a : Answer) (s : State) :
    (beginReply p c a s).accounts = s.accounts := rfl
@[simp] theorem beginReply_stations (p : PortId) (c : Byte) (a : Answer) (s : State) :
    (beginReply p c a s).stations = s.stations := rfl
@[simp] theorem beginReply_probeLast (p : PortId) (c : Byte) (a : Answer) (s : State) :
    (beginReply p c a s).probeLast = s.probeLast := rfl
@[simp] theorem beginReply_zones (p : PortId) (c : Byte) (a : Answer) (s : State) :
    (beginReply p c a s).zones = s.zones := rfl
@[simp] theorem beginReply_overfill (p : PortId) (c : Byte) (a : Answer) (s : State) :
    (beginReply p c a s).overfill = s.overfill := rfl
@[simp] theorem beginReply_bay (p : PortId) (c : Byte) (a : Answer) (s : State) :
    (beginReply p c a s).bay = s.bay := rfl
@[simp] theorem beginReply_bypasses (p : PortId) (c : Byte) (a : Answer) (s : State) :
    (beginReply p c a s).bypasses = s.bypasses := rfl
@[simp] theorem beginReply_log (p : PortId) (c : Byte) (a : Answer) (s : State) :
    (beginReply p c a s).log = s.log := rfl
@[simp] theorem beginReply_portLog (p : PortId) (c : Byte) (a : Answer) (s : State) :
    (beginReply p c a s).portLog = s.portLog := rfl
@[simp] theorem beginReply_skipped (p : PortId) (c : Byte) (a : Answer) (s : State) :
    (beginReply p c a s).skipped = s.skipped := rfl
@[simp] theorem beginReply_inflight (p : PortId) (c : Byte) (a : Answer) (s : State) :
    (beginReply p c a s).inflight = s.inflight := rfl
@[simp] theorem beginReply_mem (p : PortId) (c : Byte) (a : Answer) (s : State) :
    (beginReply p c a s).mem = s.mem := rfl
@[simp] theorem beginReply_touched (p : PortId) (c : Byte) (a : Answer) (s : State) :
    (beginReply p c a s).touched = s.touched := rfl
@[simp] theorem beginReply_freeCount (p : PortId) (c : Byte) (a : Answer) (s : State) :
    (beginReply p c a s).freeCount = s.freeCount := rfl
@[simp] theorem beginReply_pending (p : PortId) (c : Byte) (a : Answer) (s : State) :
    (beginReply p c a s).pending = s.pending := rfl
@[simp] theorem drain_mode (p : PortId) (s : State) : (drain p s).mode = s.mode := by
  unfold drain; split <;> rfl
@[simp] theorem drain_unreadable (p : PortId) (s : State) :
    (drain p s).unreadable = s.unreadable := by
  unfold drain; split <;> rfl
@[simp] theorem drain_env (p : PortId) (s : State) : (drain p s).env = s.env := by
  unfold drain; split <;> rfl
@[simp] theorem drain_roles (p : PortId) (s : State) : (drain p s).roles = s.roles := by
  unfold drain; split <;> rfl
@[simp] theorem drain_queueK (p : PortId) (s : State) :
    (drain p s).queueK = s.queueK := by
  unfold drain; split <;> rfl
@[simp] theorem drain_clock (p : PortId) (s : State) : (drain p s).clock = s.clock := by
  unfold drain; split <;> rfl
@[simp] theorem drain_products (p : PortId) (s : State) :
    (drain p s).products = s.products := by
  unfold drain; split <;> rfl
@[simp] theorem drain_tanks (p : PortId) (s : State) : (drain p s).tanks = s.tanks := by
  unfold drain; split <;> rfl
@[simp] theorem drain_points (p : PortId) (s : State) :
    (drain p s).points = s.points := by
  unfold drain; split <;> rfl
@[simp] theorem drain_islands (p : PortId) (s : State) :
    (drain p s).islands = s.islands := by
  unfold drain; split <;> rfl
@[simp] theorem drain_accounts (p : PortId) (s : State) :
    (drain p s).accounts = s.accounts := by
  unfold drain; split <;> rfl
@[simp] theorem drain_stations (p : PortId) (s : State) :
    (drain p s).stations = s.stations := by
  unfold drain; split <;> rfl
@[simp] theorem drain_probeLast (p : PortId) (s : State) :
    (drain p s).probeLast = s.probeLast := by
  unfold drain; split <;> rfl
@[simp] theorem drain_zones (p : PortId) (s : State) : (drain p s).zones = s.zones := by
  unfold drain; split <;> rfl
@[simp] theorem drain_overfill (p : PortId) (s : State) :
    (drain p s).overfill = s.overfill := by
  unfold drain; split <;> rfl
@[simp] theorem drain_bay (p : PortId) (s : State) : (drain p s).bay = s.bay := by
  unfold drain; split <;> rfl
@[simp] theorem drain_bypasses (p : PortId) (s : State) :
    (drain p s).bypasses = s.bypasses := by
  unfold drain; split <;> rfl
@[simp] theorem drain_log (p : PortId) (s : State) : (drain p s).log = s.log := by
  unfold drain; split <;> rfl
@[simp] theorem drain_portLog (p : PortId) (s : State) :
    (drain p s).portLog = s.portLog := by
  unfold drain; split <;> rfl
@[simp] theorem drain_skipped (p : PortId) (s : State) :
    (drain p s).skipped = s.skipped := by
  unfold drain; split <;> rfl
@[simp] theorem drain_inflight (p : PortId) (s : State) :
    (drain p s).inflight = s.inflight := by
  unfold drain; split <;> rfl
@[simp] theorem drain_mem (p : PortId) (s : State) : (drain p s).mem = s.mem := by
  unfold drain; split <;> rfl
@[simp] theorem drain_touched (p : PortId) (s : State) :
    (drain p s).touched = s.touched := by
  unfold drain; split <;> rfl
@[simp] theorem drain_freeCount (p : PortId) (s : State) :
    (drain p s).freeCount = s.freeCount := by
  unfold drain; split <;> rfl
@[simp] theorem drain_pending (p : PortId) (s : State) :
    (drain p s).pending = s.pending := by
  unfold drain; split <;> rfl
@[simp] theorem drain_tank (p : PortId) (s : State) (t : Nat) : (drain p s).tank t = s.tank t := by simp [State.tank]
@[simp] theorem drain_point (p : PortId) (s : State) (i : Nat) :
    (drain p s).point i = s.point i := by simp [State.point]
@[simp] theorem drain_island (p : PortId) (s : State) (i : Nat) :
    (drain p s).island i = s.island i := by simp [State.island]
@[simp] theorem drain_station (p : PortId) (s : State) (n : Nat) :
    (drain p s).station n = s.station n := by simp [State.station]
@[simp] theorem drain_zone (p : PortId) (s : State) (z : Nat) : (drain p s).zone z = s.zone z := by simp [State.zone]
@[simp] theorem drain_product (p : PortId) (s : State) (n : Nat) :
    (drain p s).product n = s.product n := by simp [State.product]
@[simp] theorem drain_entry (p : PortId) (s : State) (n : Nat) :
    (drain p s).entry n = s.entry n := by simp [State.entry]
@[simp] theorem drain_account? (p : PortId) (s : State) (n : Nat) :
    (drain p s).account? n = s.account? n := by simp [State.account?]
@[simp] theorem drain_rolesOf (p : PortId) (s : State) (q : PortId) :
    (drain p s).rolesOf q = s.rolesOf q := by simp [State.rolesOf]
@[simp] theorem drain_queueLength (p : PortId) (s : State) (q : PortId) :
    (drain p s).queueLength q = s.queueLength q := by simp [State.queueLength]
@[simp] theorem drain_logOf (p : PortId) (s : State) (q : PortId) :
    (drain p s).logOf q = s.logOf q := by simp [State.logOf]
@[simp] theorem drain_skippedOf (p : PortId) (s : State) (q : PortId) :
    (drain p s).skippedOf q = s.skippedOf q := by simp [State.skippedOf]

/-! ## The link -/

/-- With no command outstanding, or an earlier reply still being sent, no reply begins. -/
@[simp] theorem replyBegins_idle {p : PortId} {s : State} (h : (s.port p).waiting = none ∨ (s.port p).sending = true) :
    replyBegins p s = s := by
  unfold replyBegins
  obtain h | h := h <;> rw [h]
  split <;> simp_all

@[simp] theorem replyBegins_outstanding {p : PortId} {s : State} {code : Byte} {a : Answer}
    (h : (s.port p).waiting = some (code, a)) (hs : (s.port p).sending = false) :
    replyBegins p s = beginReply p code a s := by
  simp only [replyBegins, h, hs]

/-- A link event while the part runs is its effect, on a port whose outstanding reply has begun where it says so. -/
theorem linkEvent_running {s : State} (h : s.mode = .running) (l : LinkAt) (f : PortId → State → State) :
    linkEvent l f s = .next (f l.port (if l.begun then replyBegins l.port s else s)) := by
  simp only [linkEvent, h, if_true]

/-! ## The log -/

/-- A cursor has passed no more records than are held. -/
theorem Log.passed_le (l : Log) (cursor : Nat) : l.passed cursor ≤ l.held.length := by
  unfold Log.passed
  split
  · rename_i i h
    exact Nat.le_of_lt (List.findIdx?_eq_some_iff_getElem.mp h).1
  · split
    · exact Nat.le_refl _
    · exact (List.takeWhile_sublist _).length_le

/-! ## The write group of an event -/

/-- Steps 2 and 3 of a group end settled with its objects in place, or fail and leave it complete in the group area. -/
theorem placeGroup_cases (fate : Fate) (m : Memory) (keys : List ObjKey) (new : Retained) :
    (fate = .written ∧ placeGroup fate m keys new = ({ placeObjects m keys new with area := .settled }, true)) ∨
      (fate ≠ .written ∧ (placeGroup fate m keys new).2 = false ∧
        (placeGroup fate m keys new).1.area = .complete keys new ∧
        (placeGroup fate m keys new).1.answers = m.answers ∧ (placeGroup fate m keys new).1.marker = m.marker ∧
        (placeGroup fate m keys new).1.fates = m.fates) := by
  cases fate with
  | written => exact .inl ⟨rfl, rfl⟩
  | failsStep3 => exact .inr ⟨by simp, rfl, rfl, rfl, rfl, rfl⟩
  | failsStep1 => refine .inr ⟨by simp, rfl, ?_⟩; simp only [placeGroup, tornAt]; split <;> exact ⟨rfl, rfl, rfl, rfl⟩
  | failsStep2 n => refine .inr ⟨by simp, rfl, ?_⟩; simp only [placeGroup, tornAt]; split <;> exact ⟨rfl, rfl, rfl, rfl⟩

/-- What a start of RESTART or CLEAR ALL finds is outside the part: it changes the pins and the memory alone. -/
theorem findNext_keeps (s : State) : findNext s = { s with env := (findNext s).env, mem := (findNext s).mem } := rfl

/-- Such a start finds nothing changed when nothing is listed. -/
@[simp] theorem findNext_nothing {s : State} (h : s.env.coming = []) : findNext s = s := by
  obtain ⟨_, _, e, _⟩ := s; obtain ⟨_, _, _, _, _, _, c⟩ := e; cases h; rfl

/-- A start that no warning cuts makes each of its groups that has something to write, in order. -/
theorem startGroups_uncut (groups : List (State → Option State)) (s : State) :
    startGroups groups none s = groups.foldl (fun s group => (group s).getD s) s := by
  induction groups generalizing s with
  | nil => rfl
  | cons g rest ih => simp only [startGroups, List.foldl_cons]; split <;> simp_all

/-- A memory that takes every write takes a group whole. -/
theorem writeGroup_ready {m : Memory} (ha : m.answers = true) (hf : m.fates = []) (keys : List ObjKey)
    (new : Retained) :
    writeGroup m keys new =
      ({ m with
          stored := putObjects keys new m.stored, bad := m.bad.filter fun k => !keys.contains k, area := .settled },
        true) := by
  simp [writeGroup, nextFate, placeGroup, ha, hf, placeObjects]

theorem writeChanges_ready {s : State} (b : State) (ha : s.mem.answers = true) (hf : s.mem.fates = []) :
    ∃ m : Memory, m.answers = true ∧ m.fates = [] ∧ writeChanges b s = ({ s with mem := m, touched := [] }, true) := by
  have hw := writeGroup_ready ha hf (groupKeys (image b) (image s) s.touched) (image { s with touched := [] })
  by_cases hk : s.unreadable = true ∨ groupKeys (image b) (image s) s.touched = []
  · exact ⟨s.mem, ha, hf, if_pos hk⟩
  · refine ⟨_, ?_, ?_, (if_neg hk).trans (congrArg (Prod.mk _) (congrArg Prod.snd hw))⟩
    · exact (congrArg (fun r => r.1.answers) hw).trans ha
    · exact (congrArg (fun r => r.1.fates) hw).trans hf

/-- With a memory that takes every write, an event completes with its figures as they are. -/
theorem commit_ready {s : State} (b : State) (told : Bool) (ha : s.mem.answers = true) (hf : s.mem.fates = []) :
    ∃ m : Memory, m.answers = true ∧ m.fates = [] ∧ commitWith told b s = { s with mem := m, touched := [] } := by
  obtain ⟨m, hma, hmf, h⟩ := writeChanges_ready b ha hf
  exact ⟨m, hma, hmf, by rw [commitWith, h]⟩

theorem commit_apart {s : State} (b : State) (ha : s.mem.answers = true) (hf : s.mem.fates = []) :
    (commit b s).apart = s.apart := by
  obtain ⟨m, -, -, h⟩ := commit_ready b true ha hf
  rw [commit, h]; rfl

/-- What an event makes of a part that is ready for it. -/
theorem taken_makes {s : State} {f : State → State} (h : s.Ready) (hm : (f s).mem = s.mem) :
    ∃ t, taken f s = .next t ∧ t.apart = (f s).apart := by
  refine ⟨_, rfl, ?_⟩
  rw [if_pos h.1]
  exact commit_apart s (hm ▸ h.2.2.1) (hm ▸ h.2.2.2)

theorem takenAt_makes {count n : Nat} {s : State} {f : State → State} (hn : 1 ≤ n ∧ n ≤ count) (h : s.Ready)
    (hm : (f s).mem = s.mem) : ∃ t, takenAt count n f s = .next t ∧ t.apart = (f s).apart := by
  unfold takenAt
  rw [if_pos hn]
  exact taken_makes h hm

theorem Bank.set_self {α : Type} {n : Nat} (b : Bank α n) (k : Nat) (a d : α) (hk : k ≤ n) (h : b.getD k d = a) :
    b.set k a = b := h ▸ Bank.set_getD b k d hk

/-- With no reply being sent and no command outstanding, a command begins at once. -/
theorem drain_quiet {s : State} {p : PortId} (h : s.Quiet p) : drain p s = s := by
  unfold drain
  rw [h.1]
  have hk : portNumber p ≤ 3 := by cases p <;> decide
  have e : (s.ports.set (portNumber p) { s.port p with sending := false }) = s.ports :=
    Bank.set_self _ _ _ (Port.atStart 9600 none) hk (by
      have := h.2
      show s.port p = _
      generalize s.port p = d at this
      cases d
      cases this
      rfl)
  show ({ s with ports := s.ports.set (portNumber p) { s.port p with sending := false } } : State) = s
  rw [e]

/-- What a command makes of a part that is ready for it, and its reply. -/
theorem command_does {s u : State} {p : PortId} {code : Nat} {f : State → State × Answer} {a : Answer}
    (h : s.Takes p code) (hf : f s = (u, a)) (hm : u.mem = s.mem) :
    ∃ t, command p code f s = .next t ∧ t.apart = (beginReply p (BitVec.ofNat 8 code) a u).apart := by
  refine ⟨_, rfl, ?_⟩
  rw [if_pos h.1.1]
  dsimp only
  rw [drain_quiet h.2.1, judged, if_pos h.2.2, hf]
  obtain ⟨m, -, -, e⟩ := commit_ready (s := u) s true (hm ▸ h.1.2.2.1) (hm ▸ h.1.2.2.2)
  dsimp only
  rw [commit, e]
  rfl

/-! ## What operations keep, read off -/

theorem mem_of_outside {s t : State} (h : t.outside = s.outside) : t.mem = s.mem := congrArg Outside.mem h


end Sys2Proof.Machine
end

