-- ==== Sys2Proof/Tests/Slice0.lean ====
section
/-! SUPPORT. Tests: terms that no line can carry are refused by WellFormed; the worked figures of spec/; and for each
statement a state and operands that meet its hypotheses together, clause by clause. Expected values stand in spec/. -/

namespace Sys2Proof.Tests

open Sys2Proof.Machine

/- One theorem after the other: many evaluations at once take more threads than a check may start. -/
set_option Elab.async false

/-- The state after a command, the state itself where the command has no next state. -/
def after (c : Instr) (s : State) : State :=
  match exec c s with
  | .next t => t
  | _ => s

/-- A command answers a next state. -/
def runs (c : Instr) (s : State) : Bool :=
  match exec c s with
  | .next _ => true
  | _ => false

theorem next_of_runs {c : Instr} {s : State} (h : runs c s = true) : ∃ t, exec c s = .next t := by
  unfold runs at h
  split at h
  · exact ⟨_, ‹_›⟩
  · cases h

/-- The kind, subject number and details of the notices at a port. -/
def told (s : State) (p : PortId) : List (NoticeKind × Nat × Int × Int) :=
  (s.port p).queue.map fun n => (n.kind, n.number, n.first, n.second)

/-! ## WellFormed refuses what no line can carry -/

theorem test_wellFormed_one_byte_arguments :
    (Instr.readPoint .a 256).wellFormed = false ∧ (Instr.readStation .a 256).wellFormed = false ∧
      (Instr.collectRecords .b 256).wellFormed = false ∧ (Instr.hold .a 256).wellFormed = false ∧
      (Instr.closeDelivery .a 256 false).wellFormed = false ∧ (Instr.stopZone .a 256).wellFormed = false ∧
      (Instr.attach .a 256).wellFormed = false ∧ (Instr.readTank .a 1 256).wellFormed = false ∧
      (Instr.pointService .a 256 0).wellFormed = false ∧ (Instr.applyStrap .a 1 256).wellFormed = false ∧
      (Instr.endBypass .a 256 1).wellFormed = false ∧ (Instr.setQueues .a 1 1 256).wellFormed = false := by decide

theorem test_wellFormed_wider_arguments :
    (Instr.readAccount .a 65536).wellFormed = false ∧ (Instr.authorize .a 1 65536 0 false false).wellFormed = false ∧
      (Instr.authorize .a 1 1 4294967296 false false).wellFormed = false ∧
      (Instr.enterHours .a 1 16777216).wellFormed = false ∧
      (Instr.fieldTransfer .a 1 2 4294967296 none).wellFormed = false ∧
      (Instr.fieldTransfer .a 1 2 5 (some 4294967296)).wellFormed = false ∧
      (Instr.serviceDone .a 1 256).wellFormed = false ∧ (Instr.productSet .a 1 0 65536).wellFormed = false ∧
      (Instr.openDelivery .a 1 1 (some 4294967296)).wellFormed = false ∧
      (Instr.bypass .a 1 1 65536).wellFormed = false ∧ (Instr.islandSet .a 1 true 65536).wellFormed = false ∧
      (Instr.zoneSet .a 1 true 65536).wellFormed = false ∧ (Instr.setClock .a 4294967296).wellFormed = false := by
  decide

theorem test_wellFormed_records :
    (Instr.tankSet .a 1 { coldTankSettings with capacity := 4294967296 } true 0).wellFormed = false ∧
      (Instr.tankSet .a 1 coldTankSettings true 4294967296).wellFormed = false ∧
      (Instr.pointSet .a 1 { coldPointSettings with quietTime := 65536 } true).wellFormed = false ∧
      (Instr.stationSet .a 1 { StationKept.cold with k100 := 4294967296 }).wellFormed = false ∧
      (Instr.accountSet .a 1 ⟨0, 256, 100, 0, false, false, none, none, none, 0⟩).wellFormed = false ∧
      (Instr.accountSet .a 1 ⟨0, 0, 100, 0, false, false, none, some (0, 4294967296), none, 0⟩).wellFormed = false ∧
      (Instr.setService .a 1 0 [⟨0, 4294967296, none⟩]).wellFormed = false ∧
      (Instr.setService .a 1 0 (List.replicate 25 ⟨0, 10, none⟩)).wellFormed = false ∧
      (Instr.stageStrap .a 1 1 1 [⟨65536, 0⟩]).wellFormed = false ∧
      (Instr.stageStrap .a 1 1 43 (List.replicate 43 ⟨0, 0⟩)).wellFormed = false := by decide

theorem test_wellFormed_lines :
    (Instr.pollTimerExpiry 5).wellFormed = false ∧ (Instr.tag 0 0 none).wellFormed = false ∧
      (Instr.tag 1 0 (some 16777216)).wellFormed = false ∧ (Instr.keys 1 [256]).wellFormed = false ∧
      (Instr.keys 1 (List.replicate 256 0)).wellFormed = false ∧ (Instr.unitFault 1 256).wellFormed = false ∧
      (Instr.islandReplyQuiet 5 []).wellFormed = false ∧ (Instr.meterPulse 13).wellFormed = false ∧
      (Instr.nozzleLift 0).wellFormed = false ∧ (Instr.probeSample 256 0 0 0 true).wellFormed = false ∧
      (Instr.probeSample 1 0 0 32768 true).wellFormed = false ∧ (Instr.pumpConfirmOn 9).wellFormed = false ∧
      (Instr.stationMeterPulse 3).wellFormed = false ∧ (Instr.zoneEmergencyStop 7 true).wellFormed = false ∧
      (Instr.confirmTimerExpiry 0).wellFormed = false ∧ (Instr.bypassTimeExpiry 1 7).wellFormed = false ∧
      (Instr.bypassTimeExpiry 2 9).wellFormed = false ∧ (Instr.bypassTimeExpiry 3 1).wellFormed = false := by
  decide +kernel

/-- Stored contents whose accounts do not rise. -/
def disordered : Retained :=
  let a : Account := ⟨.active, 1, .haul, 100, .none, false, none, 0, 0, none, 0, 0, {}, none, none, none, 0, [], none⟩
  { Retained.cold with accounts := [(2, a), (1, a)] }

theorem test_wellFormed_finds :
    (Instr.powerOn ⟨some ⟨[0, 8, 0], rfl⟩, none, none, []⟩).wellFormed = false ∧
      (Instr.powerOn ⟨none, none, none, [⟨some ⟨[0, 8, 0], rfl⟩, none, none⟩]⟩).wellFormed = false ∧
      (Instr.powerOn ⟨none, some { Memory.formatted with stored := disordered }, none, []⟩).wellFormed = false ∧
      (Instr.resetLineReleased
        ⟨none, some { Memory.formatted with area := .complete [] disordered }, none, []⟩).wellFormed = false ∧
      (Instr.powerFailure (.complete [] disordered 0)).wellFormed = false := by decide +kernel

/-! ## Worked figures of chapter 01 -/

theorem test_gross_1000_pulses : [1000, 1001, 1002, 1003].map (grossOf · 4850) = [2061, 2063, 2065, 2068] := by decide
theorem test_factors : factorOf 830 (-184) = 10277220 ∧ factorOf 2000 800 = 8700000 ∧ factorOf 2000 (-400) = 11100000 ∧
    factorOf 830 (-400) = 10456500 ∧ factorOf 830 (-387) = 10445710 := by decide
theorem test_net_rounds : netOf 100 10045000 = 100 ∧ netOf 100 10050000 = 101 ∧ netOf 100 9950000 = 100 ∧
    netOf 396800 10277220 = 407800 ∧ netOf 396874 10277220 = 407876 := by decide
theorem test_delivery_increments : netOf 1000000 9941900 = 994190 ∧ netOf 1400000 9921150 = 1388961 := by decide

/-- The strap table of the worked gauge sample. -/
def strap3 : List StrapRow := [⟨0, 0⟩, ⟨500, 2150000⟩, ⟨1000, 5900000⟩]

theorem test_strap : [812, 38, 1240, 30, 45].map (volumeAt strap3) = [4490000, 163400, 5900000, 129000, 193500] ∧
    [812, 1000, 1240].map (aboveTable strap3) = [false, true, true] := by decide
theorem test_readings :
    judgeReading ⟨90000, true⟩ 99874 (some 100000) (some 0) 112 = .accepted 238 ∧
      judgeReading ⟨0, false⟩ 90000 (some 100000) none 9999 = .accepted 19999 ∧
      judgeReading ⟨90000, true⟩ 60000 (some 100000) (some 0) 500 = .refused .regression ∧
      judgeReading ⟨3600, true⟩ 52000 (some 100000) (some 0) 100000 = .refused .range ∧
      judgeReading ⟨7200, true⟩ 45210 none (some 0) 45400 = .refused .jump ∧
      judgeReading ⟨7200, true⟩ 45210 none (some 0) 45210 = .accepted 0 := by decide

/-! ## The check word (R177, 9.2) -/

theorem test_check_word :
    checkWord [0x31#8, 0x32#8, 0x33#8, 0x34#8, 0x35#8, 0x36#8, 0x37#8, 0x38#8, 0x39#8] = 0x29B1#16 := by
  decide +kernel

/-! ## A small bay -/

/-- A fuel tank in service, FRESH, in zone 1. -/
def aTank (probe : Nat) : Tank :=
  { Tank.cold with
    settings :=
      { coldTankSettings with
        probe := probe, capacity := 6000000, highLimit := 5700000, lowCutoff := 50000, gaugeSilence := 30 }
    status := .inService, live := strap3, book := 2000000, opening := 2000000, gauge := .fresh, gross := 2010000
    net := 2000000, silence := some 0, temp := ⟨some 65, false⟩ }

/-- A point in service, IDLE, in zone 1 and on tank `t`. -/
def aPoint (t : Nat) : Point :=
  { Point.cold with
    settings := { coldPointSettings with tank := t }, inService := true, reason := none, state := .idle }

def aGrant : Grant :=
  { account := some 1, origin := .port .a, preset := 5000, limit := .request, service := false, bayUse := false
    granted := 100, visit := none }

/-- A point under `aGrant` in a state, 40 cL into its dispense, the timers of the state run out. -/
def busyPoint (t slot : Nat) (st : PointState) : Point :=
  { aPoint t with
    state := st, grant := some aGrant, slot := slot, preset := 5000, k100 := 5000, factor := 10000000, pulses := 20
    gross := 40, net := 40, started := 100, authLeft := if st = .authorized then some 0 else none
    noFlowLeft := if st = .flowing then some 0 else none, rateLeft := if st = .flowing then some 0 else none
    holdLeft := if st = .held then some 0 else none, quietLeft := if st = .closing then some 0 else none
    maxLeft := if st = .closing then some 0 else none, endCode := if st = .closing then some .hung else none }

def anAccount (tag : Nat) : Account :=
  { state := .active, tag := BitVec.ofNat 64 tag, cls := .haul, capacity := 410000, hourSource := .keypad
    hoursRequired := false, rollover := none, meter := 45210, life := 50000, lastTime := some 0, pending := 0
    fuelTotal := 0, lube := {}, band := none, lastRate := none, limp := none, grace := 500
    entries := [⟨.engineOil, 2500, 49000, .ok⟩], carried := none }

def aZone (st : ZoneState) : Zone :=
  { Zone.cold with configured := true, state := st, scanned := true, sump := some .dry }

def aVisit (phase : Phase) : Visit :=
  { account := 5, opened := 100, hour := .pending, reading := none, delta := none, attempts := 0, list := []
    phase := phase, idle := some 90, endReason := none, lastRefusal := none }

def anIsland (line : LineState) (x : Option Exchange) (v : Option Visit) : Island :=
  { Island.cold with configured := true, line := line, pollLeft := some 250, exchange := x, visit := v }

def aDelivery (t : Nat) : Delivery :=
  { tank := t, docket := some 900000, ullage := 3690000, k100 := 100, pulses := 0, gross := 0, savedGross := 0
    recorded := 0, flags := {}, gaugeGross := 2010000, gaugeBefore := 2000000, dispensedAtOpen := 0, port := .a
    opened := 100, ended := none, endCode := none, passing := false, noFlowLeft := some 0, quietLeft := none, maxLeft := none
    factor := 10000000, slot := 8, settlingFrom := 0, sampledSince := false }

/-- A bay with points, tanks, zones, islands and accounts in many states, ready for an event. Point 1 is IDLE, 2
AUTHORIZED, 3 FLOWING, 4 HELD by a master, 5 HELD by a master and by its SUSPECT zone, 6 CLOSING, 7 ENDED, 8 out of
service, 9 STARTING, 10 one pulse from passing, 11 on island 2, 12 AUTHORIZED in a SUSPECT zone. -/
def demo : State :=
  let r := State.reset
  let suspectPoint (p : Point) : Point := { p with settings := { p.settings with zone := 2 } }
  { r with
    clock := ⟨7200, true⟩
    ports := Bank.fill 3 (Port.atStart 9600 none)
    products := ⟨[⟨true, .fuel, 830⟩, ⟨true, .engineOil, 0⟩] ++ List.replicate 6 Product.cold, rfl⟩
    tanks :=
      ⟨[aTank 1, { aTank 2 with pump := ⟨.running, none, none⟩ }, { aTank 3 with pump := ⟨.starting, some 0, none⟩ },
        { aTank 4 with pump := ⟨.runOn, none, some 0⟩ }, { aTank 5 with pump := ⟨.fault, none, none⟩ },
        { aTank 6 with gauge := .stale, window := ⟨true, 2000000, 0, 300000, 2, some 0, 0⟩, net := 1689800 },
        Tank.cold, { aTank 8 with status := .out .configuredOut }], rfl⟩
    points :=
      ⟨[aPoint 1, busyPoint 1 0 .authorized, busyPoint 2 1 .flowing, { busyPoint 1 2 .held with holdMaster := true },
        suspectPoint { busyPoint 1 3 .held with holdMaster := true, holdSpill := true }, busyPoint 2 4 .closing,
        { aPoint 1 with state := .ended }, { aPoint 1 with
          state := .outOfService, inService := false, reason := some .configuredOut }, busyPoint 3 5 .starting,
        { aPoint 1 with creep := 49 }, { aPoint 4 with settings := { coldPointSettings with tank := 4, island := 2 } },
        suspectPoint (busyPoint 1 6 .authorized)], rfl⟩
    islands :=
      ⟨[anIsland .online (some (.poll 0)) none, anIsland .online none (some (aVisit .ready)),
        anIsland .fault (some (.poll 2)) none, anIsland .online (some (.display ⟨.ready, 1⟩)) none], rfl⟩
    accounts :=
      [(1, anAccount 101), (2, { anAccount 102 with cls := .service, carried := some 1000 }),
        (3, { anAccount 103 with state := .barred }), (4, { anAccount 104 with state := .damaged }),
        (5, { anAccount 105 with hourSource := .none }), (511, anAccount 111)]
    stations :=
      ⟨[{ Station.cold with configured := true, silence := some 0 },
        { Station.cold with
          configured := true, silence := some 0, reportOk := true, state := .filling
          delivery := some (aDelivery 3) }], rfl⟩
    zones :=
      ⟨[aZone .normal, { aZone .suspect with
          confirmLeft := some 0, sump := some .wet, causes := [⟨.sump, 2, 100, true⟩] },
        aZone .shutdown, { aZone .shutdown with emergency := true, causes := [⟨.emergencyStop, 4, 100, true⟩] },
        Zone.cold, aZone .normal], rfl⟩
    log :=
      ⟨[⟨9, ⟨7, 50, false, false, .service ⟨1, .engineOil, 0, 0, .ok, .a⟩⟩⟩], [0, 1, 2, 3, 4, 5, 6, 8], 8, true⟩
    portLog := Bank.fill 3 ⟨true, 7⟩
    inflight := (Bank.fill 14 none).set 3
      (some (.dispense (dispenseImage 3 (busyPoint 2 1 .flowing) aGrant 1))) }

/-- The bay with one object changed. -/
def withPoint (i : Nat) (f : Point → Point) : State := { demo with points := demo.points.set i (f (demo.point i)) }
def withTank (k : Nat) (f : Tank → Tank) : State := { demo with tanks := demo.tanks.set k (f (demo.tank k)) }
def withZone (z : Nat) (f : Zone → Zone) : State := { demo with zones := demo.zones.set z (f (demo.zone z)) }
def withIsland (i : Nat) (f : Island → Island) : State := { demo with islands := demo.islands.set i (f (demo.island i)) }
def withStation (n : Nat) (f : Station → Station) : State :=
  { demo with stations := demo.stations.set n (f (demo.station n)) }
def withPort (p : PortId) (f : Port → Port) : State := demo.setPort p (f (demo.port p))

/-! ## Hypotheses of the statements are met: the block, commands and notices -/

theorem witness_StepRunsTheFrontCommand :
    demo.pending = [] ∧ ∃ t, exec .bayClockSecond demo = .next t :=
  ⟨by decide +kernel, next_of_runs (by decide +kernel)⟩

theorem witness_PowerOnErasedMemoryGivesReset :
    let s : State := { State.reset with mode := .off, mem := { Memory.formatted with marker := .erased } }
    s.env = Env.rest ∧ s.mem.answers = true ∧ s.mem.marker = .erased ∧ s.mem.fates = [] ∧
      ∀ p : PortId, (s.port p).tx = none := by
  refine ⟨by decide +kernel, by decide +kernel, by decide +kernel, by decide +kernel, ?_⟩
  intro p
  cases p <;> decide +kernel

/-- Reset with a command waiting, as the invariants take it. -/
def waiting : State := { State.reset with pending := [.setRoles .a 0x1F#8 0#8 0#8] }

theorem witness_invariants : RolesHeld waiting ∧ BooksBalance waiting ∧ InStep waiting ∧ waiting.Ready ∧
    mayStart waiting (.setRoles .a 0x1F#8 0#8 0#8) = false ∧ mayStart waiting (.frameReceived ⟨.a, false⟩ 0#8) = false ∧
    (∃ t, step waiting = .next t) ∧
    (∃ t, step { waiting with pending := [.powerOn StartFinds.unchanged] } = .next t) :=
  ⟨⟨by decide +kernel, by decide +kernel⟩, ⟨by decide +kernel, by decide +kernel⟩, by unfold InStep; decide +kernel,
    by decide +kernel, rfl, by decide +kernel, next_of_runs (c := .setRoles .a 0x1F#8 0#8 0#8) (by decide +kernel),
    next_of_runs (c := .powerOn StartFinds.unchanged) (by decide +kernel)⟩

theorem witness_QueuesFit : QueuesFit waiting := by
  refine ⟨?_, by decide +kernel, by decide +kernel⟩
  intro p
  cases p <;> decide +kernel

theorem witness_EveryLineEventCompletes :
    (Instr.readPoint .a 255).wellFormed = true ∧ (Instr.meterPulse 12).wellFormed = true ∧
      lineOf (.meterPulse 13) = some (12, 13) ∧ lineOf (.pumpConfirmOn 9) = some (8, 9) ∧
      lineOf (.ack 5) = some (4, 5) ∧ lineOf (.stationMeterPulse 3) = some (2, 3) ∧
      lineOf (.zoneEmergencyStop 7 true) = some (6, 7) ∧ ¬ (1 ≤ 0 ∧ 0 ≤ 12) ∧ ¬ (1 ≤ 13 ∧ 13 ≤ 12) := by decide

theorem witness_CommandsNeedTheirRole :
    sender (.stopBay .b) = some (.b, 0x52) ∧ demo.Ready ∧ demo.Quiet .b ∧ mayUse 0x52 (demo.rolesOf .b) = false ∧
      demo.Takes .a 0x64 ∧ rolesBad 0x20#8 = true ∧
      bothHeld ⟨[rolesOfByte 0x18#8, rolesOfByte 0#8, rolesOfByte 0#8], rfl⟩ ∧
      ¬ bothHeld ⟨[rolesOfByte 0x07#8, rolesOfByte 0#8, rolesOfByte 0#8], rfl⟩ := by decide +kernel

theorem witness_RepliesCarryTheLinkFlags :
    sender (.hold .a 1) = some (.a, 0x22) ∧ demo.mode = .running ∧ demo.touched = [] ∧ demo.Quiet .a ∧
      (((after (.hold .a 1) demo).port .a).tx.map fun r => r.answer.status) = some .state ∧
      ∃ t, exec (.hold .a 1) demo = .next t :=
  ⟨rfl, by decide +kernel, by decide +kernel, by decide +kernel, by decide +kernel, next_of_runs (by decide +kernel)⟩

theorem witness_NoticesAreQueuedAndCollected :
    demo.Takes .a 0x09 ∧ ¬ (1 ≤ 0 ∧ 0 ≤ 8) ∧ ¬ (1 ≤ 9 ∧ 9 ≤ 8) ∧ 1 ≤ 8 := by decide +kernel

/-! ## Quantities -/

theorem witness_NetRoundsHalfUp : 4294967295 ≤ 4294967295 ∧ 3869339905 < 3869339906 ∧ 11100000 ≤ 11100000 := by decide

theorem witness_MeteredFiguresFollowTheirRules :
    0 < 4850 ∧ (1000 + 1) * 10000 / 4850 ≤ 4294967295 ∧ (2000 : Nat) ≤ 2000 ∧ (-452 : Int) < -400 := by decide

theorem witness_StrapTableInterpolates :
    strap3.Pairwise (fun a b => a.level < b.level ∧ a.vol ≤ b.vol) ∧ strap3 = [] ++ ⟨0, 0⟩ :: ⟨500, 2150000⟩ ::
      [⟨1000, 5900000⟩] ∧ strap3 = [⟨0, 0⟩, ⟨500, 2150000⟩] ++ [⟨1000, 5900000⟩] := by decide

theorem witness_strap_below : 4 < (⟨5, 0⟩ : StrapRow).level ∧
    [(⟨5, 0⟩ : StrapRow), ⟨6, 1⟩].Pairwise (fun a b => a.level < b.level ∧ a.vol ≤ b.vol) := by decide

theorem witness_ReadingsAreJudgedInOrder :
    (9999999 < 10000000 ∨ ∃ x, (none : Option Nat) = some x ∧ x ≤ 10000000) ∧
      (112 < 99874 ∧ 112 < 10000 ∧ ((100000 : Nat) : Int) - 10000 ≤ (99874 : Nat)) ∧
      ((90000 - 0) / 360 + 10 < 112 + 100001 - 99852) ∧ ¬ ((90000 - 0) / 360 + 10 < 112 + 100000 - 99874) ∧
      ¬ (112 < 60000 ∧ 112 < 10000 ∧ ((100000 : Nat) : Int) - 10000 ≤ (60000 : Nat)) ∧
      ((7200 - 0) / 360 + 10 < 45400 - 45210) ∧ ¬ ((7200 - 0) / 360 + 10 < 45240 - 45210) :=
  ⟨.inl (by decide), by decide, by decide, by decide, by decide, by decide, by decide⟩

/-- The bay with tank 2 at its low cutoff, or one centilitre above. -/
def lowTank (net : Nat) : State := withTank 2 fun k => { k with net := net }

theorem witness_StockBasisJudgesTheLowCutoff :
    ((lowTank 50001).tank 2).settings.lowCutoff < ((lowTank 50001).tank 2).basis ∧
      ((lowTank 50000).tank 2).basis ≤ ((lowTank 50000).tank 2).settings.lowCutoff ∧
      ((lowTank 50000).point 3).settings.tank = 2 ∧ ((lowTank 50000).point 3).state = .flowing ∧
      demo.Ready ∧ demo.Quiet .a := by decide +kernel

theorem test_two_grants_against_a_low_tank :
    let k (book net : Nat) (l : List Commitment) : Tank :=
      { aTank 3 with
        settings := { (aTank 3).settings with lowCutoff := 500000 }, book := book, net := net, commitments := l }
    [(k 1210000 1204300 []).available, (k 1210000 1204300 [⟨5, 410000, 0⟩]).available,
      (k 1210000 1204300 [⟨5, 410000, 0⟩, ⟨6, 294300, 0⟩]).available,
      (k 1090000 1204300 [⟨5, 410000, 120000⟩, ⟨6, 294300, 0⟩]).available,
      (k 799940 1204300 [⟨6, 294300, 0⟩]).available, (k 799940 795500 [⟨6, 294300, 0⟩]).available] =
      [704300, 294300, 0, 5700, 5640, 1200] := by decide +kernel

/-- Account 305 of chapter 05, its ENGINE_OIL entry last served at 117,800 of its life hours. -/
def account305 (life : Nat) (state : ServiceState) : Account :=
  { anAccount 305 with
    cls := .loader, capacity := 600000, limp := some 150000, life := life
    entries := [⟨.engineOil, 2500, 117800, state⟩, ⟨.hydraulic, 10000, 112000, .ok⟩] }

theorem test_preset_under_service_hold :
    presetOf demo 1 (some (account305 120350 .due)) 0 = (600000, .capacity) ∧
      presetOf demo 1 (some (account305 120810 .overdue)) 0 = (150000, .serviceHold) := by decide +kernel

theorem test_oil_change_falls_due :
    let s := evaluateServices 1 { demo with accounts := [(1, account305 120350 .ok)] }
    let t := evaluateServices 1 { demo with accounts := [(1, account305 120810 .due)] }
    s.account? 1 = some (account305 120350 .due) ∧ told s .a = [(.serviceDue, 1, 2, 2550)] ∧
      t.account? 1 = some (account305 120810 .overdue) ∧ told t .a = [(.serviceOverdue, 1, 2, 3010)] := by
  decide +kernel

theorem witness_SavesHandOnTheIncrement :
    (demo.point 3).grant = some aGrant ∧ (demo.point 3).settings.tank = 2 ∧ aGrant.account = some 1 ∧
      demo.account? 1 = some (anAccount 101) ∧ (anAccount 101).state ≠ .damaged ∧ demo.pointClass 3 = .fuel ∧
      (anAccount 101).cls ≠ .service := by decide +kernel

/-! ## Dispense points -/

theorem witness_AuthorizeTakesTheGrant :
    demo.log.slotFree 7 = true ∧ demo.Takes .a 0x20 ∧ demo.Open 1 ∧ demo.pointClass 1 = .fuel ∧
      (demo.rolesOf .a).dispatch = true ∧ (demo.account? 1).map (fun c => c.state) = some .active ∧
      0 < demo.log.free ∧ (demo.point 1).settings.minDispense ≤ (presetOf demo 1 (demo.account? 1) 0).1 := by
  decide +kernel

theorem witness_AuthorizeJudgesTheAccount :
    demo.account? 6 = none ∧ (demo.account? 3).map (fun a => a.state) = some .barred ∧ 511 < 512 ∧
      (demo.rolesOf .a).dispatch = true := by decide +kernel

/-- Account 512 with BAY_USE (R101, and R52 with log entry 10 for its place), against 511. -/
theorem test_bay_use_account_above_511 :
    let replies (account : Nat) :=
      ((after (.authorize .a 1 account 0 false true) demo).port .a).tx.map fun r => r.answer.status
    (replies 512, replies 511) = (some .unknown, some .ok) := by decide +kernel

theorem test_authorize_takes_the_lowest_slot :
    ((after (.authorize .a 1 1 0 false false) demo).point 1).slot = 7 := by decide +kernel

theorem witness_GrantsAreDroppedWithoutRecord :
    (demo.point 2).state = .authorized ∧ demo.Takes .a 0x21 ∧ demo.Takes .a 0x24 ∧
      (demo.point 2).grant = some aGrant ∧ (demo.point 2).authLeft = some 0 := by decide +kernel

theorem witness_HoldAndResumeTheDispense :
    demo.Takes .a 0x22 ∧ (demo.point 3).state = .flowing ∧ (demo.point 3).grant = some aGrant ∧
      demo.SaveStopsNone 3 (demo.point 3) ∧ (demo.point 4).state = .held ∧ (demo.point 4).holdMaster = true ∧
      ((withPoint 5 fun p => { p with holdMaster := false }).point 5).holdMaster = false ∧
      (demo.point 1).state = .idle ∧ demo.Takes .a 0x23 ∧ (demo.point 5).state = .held ∧
      (demo.point 5).holdMaster = true ∧ (demo.point 5).holdSpill = true ∧ (demo.point 4).holdSpill = false ∧
      (demo.point 4).grant = some aGrant := by decide +kernel

theorem witness_MayStart : demo.MayStart 4 { demo.point 4 with holdMaster := false } := by
  unfold State.MayStart
  exact ⟨by decide +kernel, by decide +kernel, by decide +kernel, by decide +kernel, by decide +kernel⟩

/-- The bay with its nozzles lifted. -/
def lifted : State := { demo with env := { demo.env with nozzles := Bank.fill 12 true } }

theorem witness_ActiveDispensesClose :
    lifted.Takes .a 0x24 ∧ (lifted.point 3).state = .flowing ∧ (lifted.point 3).grant = some aGrant ∧
      lifted.SaveStopsNone 3 (lifted.point 3) ∧ lifted.env.nozzles.getD 3 false = true ∧
      (lifted.point 3).noFlowLeft = some 0 ∧ (lifted.point 4).state = .held ∧
      (lifted.point 4).holdLeft = some 0 ∧ lifted.SaveStopsNone 4 (lifted.point 4) ∧
      (lifted.point 7).state = .ended ∧ (lifted.point 7).cleared.passing = false ∧
      (({ lifted.point 7 with passing := true } : Point).cleared).passing = true := by decide +kernel

theorem witness_LiftsStartDispenses :
    demo.Ready ∧ demo.env.nozzles.getD 2 false = false ∧ (demo.point 2).state = .authorized ∧
      (demo.point 2).grant = some aGrant ∧ demo.zoneState (demo.point 2).settings.zone = .normal ∧
      demo.zoneState (demo.tankZoneOf 2) = .normal ∧ (demo.point 12).state = .authorized ∧
      demo.zoneState (demo.point 12).settings.zone = .suspect ∧
      demo.SaveStopsNone 12 (demo.startSnapshot 12 aGrant true) ∧ (demo.point 1).state = .idle ∧
      (demo.point 1).settings.island = 0 ∧ (demo.point 8).state = .outOfService := by decide +kernel

theorem witness_lift_may_start : demo.MayStart 2 (demo.startSnapshot 2 aGrant false) := by
  unfold State.MayStart
  exact ⟨by decide +kernel, by decide +kernel, by decide +kernel, by decide +kernel, by decide +kernel⟩

/-- The grant that a lift at point 11 takes from the visit at island 2. -/
def visitGrant : Grant :=
  { account := some 5, origin := .visit, preset := 410000, limit := .capacity, service := false, bayUse := false
    granted := 7200, visit := some 2 }

theorem witness_visit_lift :
    demo.Open 11 ∧ (demo.point 11).settings.island = 2 ∧ (demo.island 2).visit = some (aVisit .ready) ∧
      (aVisit .ready).phase = .ready ∧ (demo.island 2).line ≠ .fault ∧ (aVisit .ready).list.length < 4 ∧
      (demo.account? 5).map (fun c => c.state) = some .active ∧ 0 < demo.log.free ∧
      presetOf demo 11 (demo.account? 5) 0 = (410000, .capacity) ∧ (demo.point 11).settings.minDispense ≤ 410000 := by
  decide +kernel

theorem witness_visit_may_start : demo.MayStart 11 (demo.startSnapshot 11 visitGrant false) := by
  unfold State.MayStart
  exact ⟨by decide +kernel, by decide +kernel⟩

/-- Point 3 one pulse from its preset. -/
def nearPreset : State := withPoint 3 fun p => { p with pulses := 2499, gross := 4998, net := 4998, savedGross := 4998 }

theorem witness_PulsesAreMeteredOrCreep :
    demo.SaveStopsNone 3 (demo.point 3).counted ∧ (demo.point 3).pulsed.gross < (demo.point 3).savedGross + 100 ∧
      (demo.point 3).pulsed.net < (demo.point 3).preset ∧
      ((withPoint 3 fun p => { p with pulses := 49 }).point 3).pulsed.gross = 100 ∧
      (nearPreset.point 3).preset ≤ (nearPreset.point 3).pulsed.net ∧ (demo.point 6).state = .closing ∧
      (demo.point 6).counted.gross < (demo.point 6).savedGross + 100 ∧ (demo.point 4).state = .held ∧
      (demo.point 4).counted.gross < (demo.point 4).savedGross + 100 ∧
      min ((demo.point 4).creep + 1) 4294967295 < (demo.point 4).settings.passingAllowance ∧
      (demo.point 1).state = .idle ∧ (demo.point 10).state = .idle ∧ (demo.point 10).creepTold = false ∧
      (demo.point 10).settings.passingAllowance ≤ min ((demo.point 10).creep + 1) 4294967295 ∧
      (demo.zone 1).configured = true ∧ (demo.zone 1).causes = [] := by decide +kernel

/-- Point 10 of the worked case of 3.8: AUTHORIZED with creep at 49 of 50. -/
theorem test_passing_valve_with_a_grant_waiting :
    let s := after (.meterPulse 2) (withPoint 2 fun p => { p with creep := 49, authLeft := some 100 })
    (s.point 2).state = .outOfService ∧ (s.point 2).reason = some .passing ∧ (s.point 2).creep = 50 ∧
      (s.point 2).passing = true ∧ (s.point 2).grant = none ∧
      told s .a =
        [(.zoneSuspect, 1, 3, 2), (.grantDropped, 2, 4, 1), (.pointPassing, 2, 50, 50)] := by decide +kernel

/-- The bay whose point 3 counted pulses in its rate window: 1,042 exceed 125,000 cL/min, 1,041 do not (1.6). -/
def rateBay (pulses exceed : Nat) : State := withPoint 3 fun p => { p with ratePulses := pulses, exceed := exceed }

theorem witness_RateWindowsWatchTheFlow :
    ((rateBay 1042 1).point 3).rateLeft = some 0 ∧ ((rateBay 1042 1).point 3).exceed = 1 ∧
      (demo.point 3).settings.zone = 1 ∧ demo.zoneState 1 ≠ .shutdown ∧ (demo.zone 1).causes.length < 16 ∧
      (demo.point 3).settings.maxFlow * 125 / 100 < min (1042 * 600000 / (demo.point 3).k100) 4294967295 ∧
      ¬ (demo.point 3).settings.maxFlow * 125 / 100 < min (1041 * 600000 / (demo.point 3).k100) 4294967295 := by
  decide +kernel

theorem test_rate_window_flow :
    ((after (.rateWindowExpiry 3) (rateBay 1041 1)).point 3).flow = 124920 ∧
      ((after (.rateWindowExpiry 3) (rateBay 1041 1)).point 3).exceed = 0 ∧
      ((after (.rateWindowExpiry 3) (rateBay 1042 0)).point 3).exceed = 1 := by decide +kernel

theorem witness_ClosingCompletesTheDispense :
    (demo.point 6).state = .closing ∧ (demo.point 6).grant = some aGrant ∧ (demo.point 6).endCode = some .hung ∧
      (demo.point 6).quietLeft = some 0 ∧ (demo.point 6).maxLeft = some 0 := by decide +kernel

theorem witness_PointsAreConfigured :
    demo.Takes .a 0x25 ∧ (demo.point 1).state = .idle ∧ (demo.point 8).state = .outOfService ∧
      (demo.point 3).state = .flowing ∧ (demo.point 8).reason = some .configuredOut ∧ demo.Takes .a 0x60 ∧
      pointSettingsOk (demo.point 1).settings = true ∧ (demo.tank 1).status = .inService ∧
      (demo.zone 1).configured = true ∧ (demo.point 1).passing = false ∧
      ((withPoint 8 fun p => { p with passing := true }).point 8).passing = true := by decide +kernel

theorem test_point_set_out_of_service_shows_the_passing_mark :
    let s := withPoint 8 fun p => { p with passing := true, creep := 50 }
    let t := after (.pointSet .a 8 (s.point 8).settings false) s
    ((t.point 8).reason, told t .a) = (some .passing, [(.pointPassing, 8, 50, 50)]) := by decide +kernel

/-! ## Accounts -/

/-- ACCOUNT SET arguments for a VACANT account, or for account 511 as it stands. -/
def someArgs (tag : Nat) : AccountArgs :=
  ⟨BitVec.ofNat 64 tag, 1, 410000, 2, false, false, none, none, none, 45210⟩

theorem witness_AccountsAreSetAndVacated :
    demo.Takes .a 0x28 ∧ accountClassOfCode 1 = some .haul ∧ hourSourceOfCode 2 = some .keypad ∧
      demo.account? 6 = none ∧ accountArgsOk (demo.account? 6) (someArgs 106) = true ∧
      (∀ e ∈ demo.accounts, e.1 ≠ 6 → e.2.state ≠ .damaged → e.2.tag ≠ (someArgs 106).tag) ∧
      demo.account? 511 = some (anAccount 111) ∧ accountArgsOk (demo.account? 511) (someArgs 111) = true ∧
      (∀ e ∈ demo.accounts, e.1 ≠ 511 → e.2.state ≠ .damaged → e.2.tag ≠ (someArgs 111).tag) ∧
      (anAccount 111).cls = .haul ∧ demo.engaged 511 = false ∧ demo.Takes .a 0x2B ∧
      (demo.account? 4).map (fun c => c.state) = some .damaged ∧ demo.engaged 1 = true ∧ demo.engaged 2 = false ∧
      (demo.account? 2).map (fun c => c.carried) = some (some 1000) := by decide +kernel

theorem witness_BarReachesGrantsAndVisit :
    demo.Takes .a 0x29 ∧ demo.account? 1 = some (anAccount 101) ∧ (demo.point 2).state = .authorized ∧
      (demo.point 2).grant = some aGrant ∧ (demo.account? 5).map (fun c => c.state) = some .active ∧
      (demo.island 2).visit = some (aVisit .ready) ∧ (aVisit .ready).account = 5 ∧ (aVisit .ready).busy = false ∧
      ({ aVisit .ready with list := [⟨11, true⟩] } : Visit).busy = true ∧
      (demo.account? 3).map (fun c => c.state) = some .barred ∧
      (demo.account? 4).map (fun c => c.state) = some .damaged := by decide +kernel

theorem witness_UnbarReturnsTheAccount :
    demo.Ready ∧ demo.Quiet .a ∧ demo.Quiet .b ∧ (demo.rolesOf .b).dispatch = false ∧
      (demo.rolesOf .a).dispatch = true ∧ demo.account? 6 = none ∧ 511 < 512 ∧
      (demo.account? 3).map (fun c => c.state) = some .barred ∧
      (demo.account? 511).map (fun c => c.state) = some .active ∧
      (demo.account? 4).map (fun c => c.state) = some .damaged := by decide +kernel

theorem witness_ServicesAreSetAndDone :
    demo.account? 1 = some (anAccount 101) ∧ (anAccount 101).entries = [⟨.engineOil, 2500, 49000, .ok⟩] ∧
      demo.Takes .a 0x30 ∧ (classOfCode 2).isSome = true ∧ 10 ≤ 1000000 ∧ 50000 ≤ (anAccount 101).life ∧
      demo.Takes .a 0x31 ∧ classOfCode 2 = some .engineOil ∧
      (anAccount 101).entries.find? (fun o => o.cls == .engineOil) = some ⟨.engineOil, 2500, 49000, .ok⟩ ∧
      demo.memoryFault = false ∧ 0 < demo.log.free := by decide +kernel

theorem witness_EnteredHoursAreJudged :
    demo.Takes .a 0x2C ∧ demo.account? 511 = some (anAccount 111) ∧ (anAccount 111).state ≠ .damaged ∧
      demo.visitOf 511 = none ∧ judgeReading demo.clock 45210 none (some 0) 45240 = .accepted 30 ∧
      judgeReading demo.clock 45210 none (some 0) 45241 = .refused .jump := by decide +kernel

/-- The accounts of the worked service truck's day (5.6): 40 and 214, the reading of 214 taken 86,400 s ago. -/
def truckDay : State :=
  { demo with
    clock := ⟨86400, true⟩
    accounts :=
      [(40, { anAccount 40 with cls := .service, carried := some 1200000, fuelTotal := 3655000 }),
        (214, { anAccount 214 with
          meter := 45398, life := 50000, fuelTotal := 18300400, band := some (600, 1800), lastRate := some 1044 })] }

theorem test_service_trucks_day :
    let s := after (.fieldTransfer .a 40 214 350000 (some 45610)) truckDay
    (s.account? 40).map (fun a => (a.carried, a.fuelTotal)) = some (some 850000, 3655000) ∧
      (s.account? 214).map (fun a => (a.fuelTotal, a.pending, a.lastRate, a.meter)) =
        some (18650400, 0, some 1650, 45610) ∧ told s .a = [] ∧ s.log.held.length = 2 := by decide +kernel

theorem witness_TransfersMoveFuel :
    truckDay.Takes .a 0x2D ∧ (truckDay.account? 40).map (fun a => (a.state, a.cls)) = some (.active, .service) ∧
      (truckDay.account? 214).map (fun a => (a.state, a.cls)) = some (.active, .haul) ∧ truckDay.visitOf 214 = none ∧
      350000 ≤ 1200000 ∧ truckDay.memoryFault = false ∧ 0 < truckDay.log.free ∧
      judgeReading truckDay.clock 45398 none (some 0) 45610 = .accepted 212 := by decide +kernel

/-! ## Products, tanks and pumps -/

theorem witness_ProductsAndStrapTablesAreSet :
    demo.Takes .a 0x40 ∧ classOfCode 1 = some .fuel ∧ (demo.product 1).cls = .fuel ∧ demo.Takes .a 0x42 ∧
      32 + 1 ≤ 33 ∧ [(⟨0, 0⟩ : StrapRow)].length = 1 ∧ demo.Takes .a 0x43 ∧ demo.tankBusy 7 = false ∧
      (∀ t ∈ numbers 8, (demo.tank t).settings.product = 2 → demo.classHeld t = false) := by decide +kernel

/-- The bay whose tank 7 has its staging table filled with the worked table, or one that fails at its third row. -/
def staged (third : StrapRow) : State :=
  withTank 7 fun k => { k with staging := (((k.staging.set 1 ⟨0, 0⟩).set 2 ⟨500, 2150000⟩).set 3 third) }

theorem witness_strap_table :
    (staged ⟨1000, 5900000⟩).Takes .a 0x43 ∧ (staged ⟨1000, 5900000⟩).tankBusy 7 = false ∧
      ((staged ⟨1000, 5900000⟩).tank 7).staging.items.take 3 = strap3 ∧ (∀ r ∈ strap3, r.level ≤ 30000) ∧
      ((staged ⟨500, 5900000⟩).tank 7).staging.items.take 3 =
        [⟨0, 0⟩] ++ ⟨500, 2150000⟩ :: ⟨500, 5900000⟩ :: [] := by decide +kernel

theorem witness_TanksAreConfigured :
    demo.Takes .a 0x41 ∧ (demo.tank 8).status ≠ .inService ∧ tankSettingsOk (aTank 8).settings = true ∧
      (∀ y ∈ numbers 8, y ≠ 8 → (demo.tank y).configured = true → (demo.tank y).settings.probe ≠ 8) ∧
      (∀ n ∈ numbers 2, (demo.station n).configured = true → (demo.station n).probe ≠ 8) ∧
      (demo.product 1).configured = true ∧ (demo.zone 1).configured = true ∧ (demo.tank 8).live ≠ [] ∧
      (demo.tank 4).pump.state = .runOn ∧ demo.tankBusy 4 = false ∧ demo.zoneState 3 ≠ .normal := by decide +kernel

theorem test_tank_set_into_a_zone_shut_down_stops_the_run_on :
    ((after (.tankSet .a 4 { (demo.tank 4).settings with zone := 3 } true 0) demo).tank 4).pump.state = .off := by
  decide +kernel

theorem witness_PumpsFollowTheirConfirm :
    demo.Ready ∧ (demo.tank 1).pump.state = .off ∧ (demo.tank 3).pump.state = .starting ∧
      (demo.tank 3).gauge = .fresh ∧ (demo.tank 3).settings.lowCutoff < (demo.tank 3).net ∧
      (demo.tank 3).status = .inService ∧ demo.zoneState (demo.tank 3).settings.zone = .normal ∧
      demo.bay.stopped = false ∧ demo.fed 3 = [9] ∧ (demo.point 9).state = .starting ∧
      (demo.point 9).net < (demo.point 9).preset ∧ (demo.tank 2).pump.state = .running ∧ demo.fed 2 = [3, 6] ∧
      (demo.point 3).state = .flowing ∧ (demo.tank 3).pump.startLeft = some 0 ∧
      (demo.tank 4).pump.state = .runOn ∧ (demo.tank 4).pump.runOnLeft = some 0 ∧ demo.Takes .a 0x2E ∧
      (demo.tank 5).pump.state = .fault ∧ demo.runRequest 5 = false ∧
      demo.env.confirms.getD 5 false = false := by decide +kernel

/-- The bay whose point 9 waits on tank 5, whose pump is in FAULT. -/
def faultWaits : State := withPoint 9 fun p => { p with settings := { p.settings with tank := 5 } }

theorem witness_reset_pump_starts : faultWaits.Takes .a 0x2E ∧ faultWaits.runRequest 5 = true := by decide +kernel

/-- The worked gauge sample of 1.5 at tank 3. -/
theorem test_gauge_sample :
    let s := after (.probeSample 3 812 38 65 true) demo
    (s.tank 3).gross = 4326600 ∧ (s.tank 3).net = 4357124 ∧ (s.tank 3).above = false := by decide +kernel

theorem test_sample_at_a_tank_without_a_table :
    let k := gaugeFigures { aTank 3 with live := [] } 830 0 812 38 65
    k.gauge = .fresh ∧ k.temp = ⟨some 65, false⟩ ∧ k.gross = (Config.freeVolume 0).toNat ∧
      k.above = Config.freeAbove 0 := ⟨rfl, rfl, rfl, rfl⟩

/-- The bay whose tank 6 has a worked window of 2.8, three samples into its settle time, and its gauge FRESH. -/
def settling : State := withTank 6 fun k =>
  { k with gauge := .fresh, settings := { k.settings with windowBase := 5000, windowPerMille := 5 } }

theorem test_three_exceeding_samples :
    let s := checkWindow 6 settling
    (s.tank 6).window.isOpen = false ∧ s.zoneState 1 = .shutdown ∧
      (s.zone 1).causes = [⟨.unmeteredLoss, 6, 7200, false⟩] := by decide +kernel

theorem witness_GaugesFollowTheirSamples :
    demo.Ready ∧ demo.probeTank (demo.tank 1).settings.probe = some 1 ∧ (demo.tank 1).live ≠ [] ∧
      (demo.tank 1).gauge ≠ .stale ∧ (demo.tank 1).window.isOpen = false ∧ demo.stationFor 1 = none ∧
      (demo.tank 1).settings.lowCutoff < netOf (min (volumeAt strap3 812 - volumeAt strap3 38) 4294967295)
        (factorOf (demo.product 1).alpha (workingTemp (sourceAfter 65))) ∧
      demo.probeTank (demo.tank 6).settings.probe = some 6 ∧ (demo.tank 6).gauge = .stale ∧
      (demo.tank 1).silence = some 0 ∧ ((demo.tank 1).settings.lowCutoff : Int) < (demo.tank 1).book ∧
      (demo.tank 6).silence = some 0 ∧ (demo.tank 6).window.settle = some 0 ∧
      (demo.tank 6).window.isOpen = true ∧ (settling.tank 6).window.count = 2 ∧
      (demo.zone 1).causes.length < 16 := by decide +kernel

theorem test_fault_sample_makes_the_gauge_stale :
    let s := after (.probeSample 1 500 0 65 false) demo
    ((s.tank 1).gauge, (s.tank 1).silence, told s .a) = (.stale, some 0, [(.gaugeStale, 1, 1, 2000000)]) := by
  decide +kernel

/-- The clamp, hold and recovery of chapter 01: a start, an OK sample at −452, a FAULT sample, an OK sample at −387. -/
theorem test_tank_factor :
    let s := after (.probeSample 1 500 0 (-452) true) demo
    let t := after (.probeSample 1 500 0 65 false) s
    let u := after (.probeSample 1 500 0 (-387) true) t
    (State.reset.tank 1).factor = 10000000 ∧
      [s, t, u].map (fun s => (s.tank 1).factor) = [10456500, 10456500, 10445710] := by decide +kernel

/-! ## Receipts and stock close -/

theorem witness_DeliveriesOpen :
    demo.Takes .a 0x44 ∧ (demo.station 1).configured = true ∧ (demo.station 1).state = .idle ∧
      demo.stationFor 1 = none ∧ (demo.tank 1).status = .inService ∧ (demo.tank 1).gauge = .fresh ∧
      demo.zoneState (demo.station 1).zone = .normal ∧ demo.zoneState (demo.tank 1).settings.zone = .normal ∧
      0 < demo.log.free ∧ (demo.tank 1).gross < (demo.tank 1).settings.highLimit := by decide +kernel

/-- The bay with the delivery at station 2 changed and its station in a state. -/
def delivering (st : StationState) (f : Delivery → Delivery) : State :=
  withStation 2 fun k => { k with state := st, delivery := some (f (aDelivery 3)) }

/-- SETTLING, its timers running. -/
def settlingBay : State :=
  delivering .settling fun d => { d with endCode := some .closed, quietLeft := some 5, maxLeft := some 60 }

theorem witness_StationPulsesAreMetered :
    demo.Ready ∧ (demo.station 1).state = .idle ∧ (demo.station 2).state = .filling ∧
      (demo.station 2).delivery = some (aDelivery 3) ∧ grossOf 1 100 = 100 ∧ grossOf 100 100 = 10000 ∧
      (delivering .filling fun d => { d with pulses := 99 }).Ready ∧
      (delivering .paused fun d => { d with ullage := 100 }).Ready ∧ settlingBay.Ready := by decide +kernel

theorem test_delivery_save_at_10000 :
    let s := after (.stationMeterPulse 2) (delivering .filling fun d => { d with pulses := 99, gross := 9900 })
    ((s.station 2).delivery.map fun d => (d.savedGross, d.recorded)) = some (10000, 10000) ∧
      (s.tank 3).receipts = 10000 := by decide +kernel

theorem witness_DeliveriesSettleAndComplete :
    demo.Takes .a 0x45 ∧ (demo.station 2).delivery = some (aDelivery 3) ∧ (demo.station 2).state = .filling ∧
      (aDelivery 3).noFlowLeft = some 0 ∧ settlingBay.Takes .a 0x45 ∧ (settlingBay.station 2).state = .settling ∧
      ((settlingBay.station 2).delivery.map fun d => (d.endCode, d.tank, d.quietLeft, d.maxLeft)) =
        some (some .closed, 3, some 5, some 60) := by decide +kernel

/-- Tank 6 before its worked close (1.9, 6.4). -/
def closing6 : State := withTank 6 fun k =>
  { k with
    gauge := .fresh, window := Window.shut, opening := 9600000, receipts := 3000000, dispensed := 4800000
    book := 7800000, net := 7750600, trend := [-12000, -8500, 3000, -15200, -9800, -11000, 4100] }

theorem witness_StockIsClosed :
    closing6.Takes .a 0x46 ∧ closing6.tankBusy 6 = false ∧ (closing6.tank 6).gauge = .fresh ∧
      closing6.memoryFault = false ∧ 0 < closing6.log.free ∧ closing6.log.armed = true ∧
      ({ closing6 with log := { closing6.log with armed := false } } : State).log.armed = false ∧
      (closing6.port .a).queue.length + 1 < closing6.queueLength .a ∧ (closing6.rolesOf .a).stock = true := by
  decide +kernel

theorem test_close_of_tank_6 :
    let s := after (.closeStock .a 6) closing6
    (s.tank 6).book = 7750600 ∧ (s.tank 6).opening = 7750600 ∧ (s.tank 6).receipts = 0 ∧ (s.tank 6).trend.sum = -98800 ∧
      told s .a = [(.variance, 6, -49400, 43400), (.lossTrend, 6, -98800, 50000)] := by decide +kernel

theorem witness_StationProbesAndSettings :
    demo.Ready ∧ (demo.station 2).silence = some 0 ∧ (demo.station 2).reportOk = true ∧
      (demo.station 1).reportOk = false ∧ demo.probeTank 9 = none ∧
      (withStation 1 fun k => { k with probe := 9 }).probeStation 9 = some 1 ∧ demo.Takes .a 0x63 ∧
      (demo.station 1).state = .idle ∧ stationSettingsOk { (demo.station 1).toStationKept with probe := 9 } = true ∧
      stationProbeHeld demo 1 9 = false ∧ (demo.zone 1).configured = true ∧
      (withStation 2 fun k => { k with probe := 9 }).probeStation 9 = some 2 ∧ (demo.station 2).reportOk = true := by
  decide +kernel

theorem test_fault_sample_at_a_station :
    let s := after (.probeSample 9 0 0 65 false) (withStation 2 fun k => { k with probe := 9 })
    ((s.station 2).reportOk, told s .a) = (false, [(.stationProbeFault, 2, 1, 150)]) := by decide +kernel

/-! ## Zones, the bay and bypasses -/

theorem witness_ZonesAreConfigured :
    demo.Takes .a 0x62 ∧ (demo.zone 5).configured = false ∧ demo.env.zoneStops.getD 5 false = false ∧
      (demo.zone 1).configured = true ∧ zoneNamed demo 6 = false ∧ zoneNamed demo 1 = true ∧ 120 ≤ 120 := by
  decide +kernel

theorem witness_ZonesStopAndAreReleased :
    demo.Takes .a 0x50 ∧ ¬ (1 ≤ 7 ∧ 7 ≤ 6) ∧ (demo.zone 5).configured = false ∧ (demo.zone 1).configured = true ∧
      (demo.zone 1).causes.length < 16 ∧ demo.zoneState 1 ≠ .shutdown ∧ (demo.point 3).settings.zone = 1 ∧
      (demo.point 3).state = .flowing ∧ (demo.tank 2).settings.zone = 1 ∧ (demo.station 2).zone = 1 ∧
      (demo.station 2).delivery.isSome = true ∧ (demo.station 2).state ≠ .idle ∧ demo.Takes .a 0x51 ∧
      (demo.zone 3).configured = true ∧ (demo.zone 3).state = .shutdown ∧ (demo.zone 3).scanned = true ∧
      demo.activeCondition 3 = false ∧ demo.activeCondition 4 = true ∧ demo.zoneState 2 = .suspect ∧
      (demo.zone 2).confirmLeft = some 0 ∧ demo.suspectCondition 2 = true ∧
      (withZone 2 fun z => { z with sump := some .dry, causes := [⟨.sump, 2, 100, false⟩] }).suspectCondition 2 =
        false ∧ (demo.point 5).settings.zone = 2 ∧ (demo.point 5).state = .held := by decide +kernel

theorem witness_stop_zone_escalates :
    (demo.zone 1).live = false ∧ (demo.zone 4).live = true ∧
      ((withZone 4 fun d => { d with causes := [] }).zone 4).live = false := by decide +kernel

/-- The bay without a point HELD for SPILL. -/
def noSpill : State := withPoint 5 fun p => { p with holdSpill := false }

theorem witness_release_without_spill :
    (∀ i ∈ numbers 12, (noSpill.point i).state ≠ .held ∨ (noSpill.point i).holdSpill = false) ∧
      (∀ n ∈ numbers 2, (noSpill.station n).state ≠ .paused) := by decide +kernel

/-- The bay with zone 3 ready for release and point 5, on tank 1 in zone 1, HELD there for SPILL. -/
def spillIn3 (master : Bool) : State := withPoint 5 fun p =>
  { p with settings := { p.settings with zone := 3 }, holdMaster := master }

theorem witness_release_with_spill :
    (spillIn3 true).Takes .a 0x51 ∧ ((spillIn3 true).zone 3).configured = true ∧
      ((spillIn3 true).zone 3).state = .shutdown ∧ ((spillIn3 true).zone 3).scanned = true ∧
      (spillIn3 true).activeCondition 3 = false ∧ ((spillIn3 true).point 5).holdSpill = true ∧
      ((spillIn3 true).point 5).grant = some aGrant ∧ (spillIn3 true).tankZoneOf 5 = 1 ∧
      (spillIn3 true).zoneState 1 = .normal ∧ ((spillIn3 false).point 5).holdMaster = false ∧
      (∀ j ∈ numbers 12, j ≠ 5 → ((spillIn3 true).point j).state ≠ .held ∨ ((spillIn3 true).point j).holdSpill = false) ∧
      (∀ n ∈ numbers 2, ((spillIn3 true).station n).state ≠ .paused) := by decide +kernel

theorem witness_release_may_start :
    (spillIn3 false).MayStart 5 { (spillIn3 false).point 5 with holdSpill := false } := by
  unfold State.MayStart
  exact ⟨by decide +kernel, by decide +kernel, by decide +kernel, by decide +kernel, by decide +kernel⟩

theorem test_a_delivery_ends_with_the_zone_of_its_tank :
    let s := after (.stopZone .a 6) (withTank 3 fun k => { k with settings := { k.settings with zone := 6 } })
    (s.station 2).state = .settling := by decide +kernel

/-- A scan that reads every line DRY but the sump of zone 1. -/
def wetScan : ScanReadings := ⟨(Bank.fill 6 Line.dry).set 1 .wet, Bank.fill 8 .dry⟩

theorem witness_ZoneInputsAreWatched :
    demo.Ready ∧ (demo.zone 1).configured = true ∧ (demo.zone 1).emergency = false ∧ (demo.zone 1).state ≠ .shutdown ∧
      (demo.zone 4).configured = true ∧ (demo.zone 4).emergency = true ∧ (demo.zone 5).configured = false ∧
      sumpCause (demo.zone 1).sump = none ∧ sumpCause (wetScan.sump.get? 1) ≠ none ∧
      demo.bypassed (.sump 1) = false ∧ demo.zoneState 6 = .normal ∧
      sumpCause (wetScan.sump.get? 6) = sumpCause (demo.zone 6).sump ∧ overfillCause (wetScan.overfill.get? 1) = none ∧
      (demo.tank 1).settings.zone = 1 ∧ (demo.tank 1).configured = true ∧ demo.bypassed (.overfill 1) = false ∧
      overfillCause (demo.overfillLine 1) = none ∧ (demo.tank 7).configured = false := by decide +kernel

/-- A scan that reads every line DRY but the overfill line of tank 1. -/
def overfillScan (x : Line) : ScanReadings := ⟨Bank.fill 6 .dry, (Bank.fill 8 Line.dry).set 1 x⟩

theorem test_overfill_lines_take_their_zone :
    (after (.sensorScan (overfillScan .wet)) demo).zoneState 1 = .shutdown ∧
      (after (.sensorScan (overfillScan .opened)) demo).zoneState 1 = .suspect := by decide +kernel

theorem test_scan_makes_a_zone_suspect :
    let s := after (.sensorScan wetScan) demo
    s.zoneState 1 = .suspect ∧ (s.zone 1).causes = [⟨.sump, 1, 7200, true⟩] ∧ (s.zone 1).confirmLeft = some 10 := by
  decide +kernel

/-- The bay with its bay record changed. -/
def withBay (b : Bay) : State := { demo with bay := b }

theorem witness_BayStopsAndIsReleased :
    demo.Takes .a 0x52 ∧ demo.bay = ⟨false, [], false⟩ ∧
      (withBay ⟨true, [⟨.emergencyStop, 0, 7000, true⟩], true⟩).Takes .a 0x52 ∧
      (∀ c ∈ [(⟨.emergencyStop, 0, 7000, true⟩ : Cause)], ¬ (c.kind = .masterStop ∧ c.subject = portNumber .a)) ∧
      (withBay ⟨true, [⟨.masterStop, 1, 7000, false⟩], false⟩).Takes .a 0x53 ∧
      (withBay ⟨true, [⟨.masterStop, 1, 7000, false⟩], false⟩).memoryFault = false ∧
      (withBay ⟨true, [⟨.memoryFault, 0, 7000, false⟩], false⟩).memoryFault = true := by decide +kernel

theorem test_stop_bay_closes_the_dispense :
    let s := after (.stopBay .a) demo
    (s.point 3).state = .closing ∧ (s.point 3).endCode = some .shutdown ∧ (s.point 2).state = .idle ∧
      (s.tank 2).pump.state = .off ∧ s.relayClosed = false := by decide +kernel

/-- The bay with bypasses: of the sump of zone 1, or eight of them. -/
def bypassing (l : List Bypass) : State := { demo with bypasses := l }

theorem witness_SumpBypasses :
    demo.Takes .a 0x54 ∧ (demo.zone 1).configured = true ∧ demo.bypassed (.sump 1) = false ∧
      demo.bypasses.length < 8 ∧ 8 ≤ (List.replicate 8 (⟨.overfill 1, .a, 60⟩ : Bypass)).length ∧
      (bypassing [⟨.sump 1, .a, 0⟩]).bypassed (.sump 1) = true ∧ ⟨.sump 1, .a, 0⟩ ∈ (bypassing [⟨.sump 1, .a, 0⟩]).bypasses ∧
      (bypassing (List.replicate 8 ⟨.overfill 1, .a, 60⟩)).Takes .a 0x54 ∧ (demo.zone 1).sump = some .dry ∧
      ({ withZone 1 (fun z => { z with sump := some .wet }) with bypasses := [⟨.sump 1, .a, 0⟩] } : State).Ready ∧
      (demo.zone 1).causes = [] ∧ demo.zoneState 1 = .normal := by decide +kernel

theorem witness_OutputsNeedTheirPermits :
    demo.slowOutput 3 = true ∧ demo.pumpOutput 2 = true ∧ demo.stationOutput 2 = true ∧ demo.permit 1 = true ∧
      (withBay ⟨true, [], false⟩).permit 1 = false ∧ demo.inletOutput 3 = true ∧ demo.stationFor 3 = some 2 ∧
      (withPoint 3 fun p => { p with fast := true }).fastOutput 3 = true := by
  decide +kernel

/-! ## Ports, the clock and the log -/

theorem witness_QueueLengthsAreSet :
    demo.Ready ∧ demo.Quiet .a ∧ demo.Quiet .b ∧ (demo.rolesOf .b).supervisor = false ∧
      (demo.rolesOf .a).supervisor = true ∧ 32 * 8 + 32 * 2 + 32 * 2 = 384 ∧ ¬ 32 * 8 + 32 * 3 + 32 * 2 ≤ 384 := by
  decide +kernel

theorem witness_ClockIsSet :
    demo.Ready ∧ demo.Quiet .a ∧ 4294967295 ≤ 4294967295 ∧ (demo.rolesOf .b).supervisor = false ∧
      (demo.rolesOf .a).supervisor = true := by decide +kernel

theorem witness_AttachRewindsTheCursor :
    demo.Ready ∧ demo.Quiet .a ∧ ¬ (1 ≤ 4 ∧ 4 ≤ 3) ∧ ¬ (1 ≤ 0 ∧ 0 ≤ 3) ∧ demo.unreadable = false ∧
      (demo.log.held.map fun h => h.record.ticket) = [7] := by decide +kernel

/-- The bay with the attachments of its three ports changed. -/
def attached (a b c : PortLog) : State := { demo with portLog := ⟨[a, b, c], rfl⟩ }

theorem witness_RecordsAreCollectedAndLeave :
    (attached ⟨true, 8⟩ ⟨true, 7⟩ ⟨false, 1⟩).Takes .a 0x68 ∧
      ((attached ⟨true, 8⟩ ⟨true, 7⟩ ⟨false, 1⟩).logOf .c).attached = false ∧
      ((attached ⟨true, 8⟩ ⟨true, 7⟩ ⟨false, 1⟩).logOf .b).attached = true ∧
      ((attached ⟨true, 8⟩ ⟨true, 7⟩ ⟨false, 1⟩).logOf .a).attached = true ∧
      (∀ r ∈ [PortId.b, .c], ((attached ⟨true, 8⟩ ⟨false, 7⟩ ⟨false, 1⟩).logOf r).attached = false) ∧
      demo.Takes .a 0x0A ∧ (demo.logOf .a).attached = true ∧ ¬ (1 ≤ 5 ∧ 5 ≤ 4) ∧
      (demo.log.held.map fun h => h.record.ticket).Nodup ∧
      demo.log.passed 7 = 0 ∧ demo.log.held.drop 1 = [] ∧ demo.log.ticket = 8 ∧
      ((attached ⟨false, 1⟩ ⟨true, 7⟩ ⟨true, 7⟩).logOf .a).attached = false := by decide +kernel

theorem test_the_last_collection_lets_the_record_leave :
    (after (.collectRecords .a 4) (attached ⟨true, 7⟩ ⟨true, 8⟩ ⟨true, 8⟩)).log.held = [] ∧
      (after (.collectRecords .a 4) (attached ⟨true, 7⟩ ⟨true, 7⟩ ⟨true, 8⟩)).log.held.length = 1 := by decide +kernel

theorem witness_ReadsShowTheirObjects :
    demo.Ready ∧ demo.Quiet .a ∧ demo.account? 6 = none ∧ (demo.account? 1).map (fun c => c.state) = some .active ∧
      demo.findTag? 101 = some (1, anAccount 101) ∧ demo.findTag? 999 = none ∧
      (demo.account? 3).map (fun c => c.state) = some .barred ∧
      (demo.account? 4).map (fun c => c.state) = some .damaged ∧
      demo.accounts = [] ++ (1, anAccount 101) :: demo.accounts.drop 1 ∧
      (∀ e ∈ demo.accounts, e.2.tag = 104 → e.2.state = .damaged) := by decide +kernel

/-- A delivery in progress shows no ended time (log entry 38). -/
theorem test_read_station_shows_the_delivery :
    ((stationView demo 2).delivery.map fun d => (d.tank, d.opened, d.ended)) = some (3, 100, none) := by decide +kernel

/-! ## The bytes of a reply (R201 to R203) -/

/-- SET CLOCK in a reply: 4 bytes of the time before, high byte first, and its set flag. -/
theorem test_reply_of_set_clock :
    (replyFrame ⟨0x66#8, ⟨.ok, .clock 7200 true⟩, false, true⟩).take 10 =
      [0xA5#8, 0#8, 7#8, 0x66#8, 0x80#8, 0#8, 0#8, 0x1C#8, 0x20#8, 1#8] := by decide +kernel

/-- FIELD TRANSFER in a reply: 8 bytes of carried balance between the ticket and the outcome. -/
theorem test_reply_of_field_transfer :
    resultBytes (.transfer 8 850000 none) =
      [0#8, 0#8, 0#8, 8#8, 0#8, 0#8, 0#8, 0#8, 0#8, 0x0C#8, 0xF8#8, 0x50#8, 0#8, 0#8, 0#8, 0#8, 0#8, 0#8] := by
  decide +kernel

/-- An absent optional field takes as many bytes as one that is present. -/
theorem test_optional_fields_keep_their_width :
    (grantBytes aGrant).length = 15 ∧ (sampleBytes ⟨1, 2, -3, true⟩).length = 7 ∧
      (deliveryBytes (aDelivery 3).toDeliveryFields).length = 60 ∧ (displayBytes ⟨.ready, 1⟩).length = 3 ∧
      (visitBytes (aVisit .ready).toVisitFields).length = 23 ∧ (outcomeBytes (.accepted 212)).length = 5 := by
  decide +kernel

/-! ## The link -/

/-- The bay with the receiver of Port A in a state. -/
def receiving (r : Receiver) : State := withPort .a fun d => { d with rx := r, gap := decide (r ≠ .hunt) }

/-- READ POINT 12 as the body of a frame. -/
def readPoint12 : List Byte := [0x01#8, 12#8]

theorem witness_FramesBecomeCommands :
    (receiving .hunt).mode = .running ∧ ((receiving .length).port .a).rx = .length ∧
      ((receiving (.body 2 [0x01#8])).port .a).rx = .body 2 [0x01#8] ∧
      ((receiving (.check readPoint12 none)).port .a).gap = true ∧
      lengthOk 0x01 readPoint12 = true ∧ readCommand .a readPoint12 = some (.readPoint .a 12) ∧
      permitted demo .a 0x01 = true ∧ commandRoles 0x7F = none ∧ lengthOk 0x01 [0x01#8] = false := by decide +kernel

/-- The two bytes of the check word of a body. -/
def checkBytes (body : List Byte) : Byte × Byte :=
  let w := (checkWord (BitVec.ofNat 8 body.length :: body)).toNat
  (BitVec.ofNat 8 (w / 256), BitVec.ofNat 8 (w % 256))

theorem witness_good_frame :
    (checkWord [2#8, 0x01#8, 12#8]).toNat =
        (checkBytes readPoint12).1.toNat * 256 + (checkBytes readPoint12).2.toNat ∧
      (checkWord [2#8, 0x01#8, 12#8]).toNat ≠ 0 * 256 + 0 ∧
      (withPort .a fun d => { d with waiting := some (0x01#8, ⟨.ok, .empty⟩) }).mode = .running ∧
      ((withPort .a fun d => { d with sending := true }).port .a).waiting = none := by decide +kernel

theorem test_frame_is_its_command :
    let s := receiving (.check readPoint12 (some (checkBytes readPoint12).1))
    ((after (.frameReceived ⟨.a, false⟩ (checkBytes readPoint12).2) s).port .a).waiting =
      some (0x01#8, ⟨.ok, .point (pointView demo 12)⟩) := by decide +kernel

/-- HOLD of point 3 as the body of a frame. -/
def hold3 : List Byte := [0x22#8, 3#8]

/-- Port A with its AUTHORIZE outstanding and a good HOLD frame but for its last byte (9.1). -/
def outstanding : State := withPort .a fun d =>
  { d with rx := .check hold3 (some (checkBytes hold3).1), gap := true, waiting := some (0x20#8, ⟨.ok, .empty⟩) }

/-- The worked sequence of 9.1: HOLD before the reply to AUTHORIZE begins is dropped; after it has begun, it is taken. -/
theorem test_frame_behind_an_outstanding_command :
    let s := after (.frameReceived ⟨.a, false⟩ (checkBytes hold3).2) outstanding
    let t := after (.frameReceived ⟨.a, true⟩ (checkBytes hold3).2) outstanding
    ((s.port .a).overrun, (s.point 3).state, (s.port .a).waiting.map fun w => w.1) = (true, .flowing, some 0x20#8) ∧
      ((t.port .a).overrun, (t.point 3).state, (t.port .a).waiting.map fun w => w.1) = (false, .held, some 0x22#8) ∧
      ((t.port .a).tx.map fun r => r.code) = some 0x20#8 := by decide +kernel

theorem witness_LinkEventsSayWhatHasBegun :
    outstanding.mode = .running ∧ (outstanding.port .a).waiting = some (0x20#8, ⟨.ok, .empty⟩) ∧
      (outstanding.port .a).sending = false ∧ (demo.port .a).waiting = none ∧
      restartAwaited (receiving (.check [0x69#8, 0#8] (some 0#8))) .a = true ∧ restartAwaited outstanding .a = false := by
  decide +kernel

/-- What a frame that carries RESTART needs, one with an unknown code, one without a role and one of a wrong length. -/
theorem witness_frames_refused_or_starting :
    permitted demo .a 0x69 = true ∧ lengthOk 0x69 [0x69#8, 0#8] = true ∧
      readCommand .a [0x69#8, 0#8] = some (.restart .a) ∧
      readCommand .a [0x6A#8, 0#8] = some (.clearAll .a) ∧ (withBay ⟨true, [], false⟩).bay.stopped = true ∧
      commandRoles 0x7F = none ∧ commandRoles 0x66 ≠ none ∧ permitted demo .b 0x66 = false ∧ demo.touched = [] ∧
      demo.Quiet .a ∧ lengthOk 0x66 [0x66#8] = false := by decide +kernel

/-! ## Island lines and visits -/

theorem witness_IslandLinesExchange :
    demo.Ready ∧ (demo.island 2).pollLeft.isSome = true ∧ (demo.island 2).exchange = none ∧
      (demo.island 2).pendingDisplay = none ∧ (demo.island 1).exchange = some (.poll 0) ∧
      (demo.island 1).line = .online ∧ (demo.island 1).pollDue = false ∧ (demo.island 1).unitFaulted = false ∧
      (demo.island 3).exchange = some (.poll 2) ∧ (demo.island 3).line = .fault ∧ demo.closedSwitch 3 = false ∧
      (demo.island 3).visit = none ∧ (demo.island 3).configured = true ∧
      (demo.island 4).exchange = some (.display ⟨.ready, 1⟩) ∧ (demo.island 4).line ≠ .fault ∧
      ((withIsland 1 fun d => { d with exchange := some (.poll 2) }).island 1).line ≠ .fault ∧
      ((withIsland 1 fun d => { d with line := .unknown }).island 1).line = .unknown ∧ demo.closedSwitch 1 = false ∧
      ({ demo with env := { demo.env with closed := Bank.fill 4 true } } : State).closedSwitch 1 = true ∧
      LineByte.inError ⟨0x10#8, false, true⟩ = false ∧ LineByte.inError ⟨0x10#8, true, true⟩ = true ∧
      LineByte.inError ⟨0x10#8, false, false⟩ = true := by decide +kernel

/-- A byte with even parity fails the try: the repeat is sent (R81, R83). -/
theorem test_even_parity_fails_the_try :
    let d := (after (.islandReplyQuiet 1 [⟨0x10#8, true, true⟩]) demo).island 1
    (d.exchange, d.sent) = (some (.poll 1), some .repeatLast) := by decide +kernel

theorem witness_quiet_replies :
    [0#8, 0#8, 0#8, 0#8, 0#8, 0#8, 0#8, 101#8].length = 8 ∧ (0x01#8).getLsbD 0 = true ∧ (0x00#8).getLsbD 0 = false ∧
      [1#8, 2#8, 3#8].length = 3 ∧ (∀ x ∈ [4#8, 5#8, 2#8, 4#8, 0#8], x.toNat ≤ 9) := by decide

/-- The bay whose island 1 holds a visit of account 511 that waits for its hours, one reading refused. -/
def waitsHours : State := withIsland 1 fun d =>
  { d with visit := some { aVisit .waitingHours with account := 511, attempts := 1 } }

theorem witness_TagsAndKeysOpenVisits :
    (demo.island 1).exchange = some (.poll 0) ∧ (demo.island 1).line = .online ∧ (demo.island 1).configured = true ∧
      (demo.island 1).pendingDisplay = none ∧ demo.closedSwitch 1 = false ∧ (demo.island 1).visit = none ∧
      demo.findTag? 111 = some (511, anAccount 111) ∧ (anAccount 111).hourSource = .keypad ∧ demo.visitOf 511 = none ∧
      ({ demo with accounts := [(511, { anAccount 111 with hourSource := .none })] } : State).visitOf 511 = none ∧
      demo.findTag? 999 = none ∧ waitsHours.Ready ∧
      (waitsHours.island 1).visit = some { aVisit .waitingHours with account := 511, attempts := 1 } ∧
      waitsHours.account? 511 = some (anAccount 111) ∧
      [4, 5, 2, 4, 0].foldl (fun n d => 10 * n + d) 0 = 45240 ∧
      judgeReading waitsHours.clock 45210 none (some 0) 45240 = .accepted 30 ∧
      judgeReading waitsHours.clock 45210 none (some 0) 45241 = .refused .jump := by decide +kernel

theorem test_keys_give_the_reading :
    let s := after (.keys 1 [4, 5, 2, 4, 0]) waitsHours
    ((s.account? 511).map fun a => (a.meter, a.life)) = some (45240, 50030) ∧
      ((s.island 1).visit.map fun v => (v.hour, v.phase)) = some (.accepted, .ready) := by decide +kernel

/-- Account 118 of the worked burn interval (5.4), its second visit ending at island 2. -/
def burnBay : State :=
  { withIsland 2 (fun d =>
      { d with visit := some { aVisit .ready with account := 118, hour := .accepted, delta := some 191, idle := some 0 } }) with
    accounts := [(118, { anAccount 118 with cls := .dozer, pending := 133050, band := some (250, 450), lastRate := some 380 })] }

theorem test_burn_interval_over_two_visits :
    let s := after (.visitIdleTimeout 2) burnBay
    ((s.account? 118).map fun a => (a.pending, a.lastRate)) = some (0, some 696) ∧
      (told s .a).head? = some (.burnAnomaly, 118, 696, 191) := by decide +kernel

theorem witness_VisitsEndWhenIdle :
    burnBay.Ready ∧ ((burnBay.island 2).visit.map fun v => (v.idle, v.hour, v.delta)) =
        some (some 0, .accepted, some 191) ∧
      (burnBay.island 2).line = .online ∧ (burnBay.island 2).exchange = none ∧ (burnBay.island 1).visit = none ∧
      ((burnBay.account? 118).map fun c => c.cls) = some .dozer ∧ burnBay.closedSwitch 2 = false ∧
      burnBay.Takes .a 0x61 ∧ (burnBay.island 2).configured = true ∧
      ((withIsland 1 fun d => { d with configured := false }).island 1).configured = false ∧
      (demo.island 2).visit = some (aVisit .ready) ∧ (aVisit .ready).idle = some 90 ∧ (aVisit .ready).hour ≠ .accepted ∧
      (burnBay.port .a).queue.length + 1 < burnBay.queueLength .a ∧ (burnBay.rolesOf .a).dispatch = true := by
  decide +kernel

/-- An expiry that finds the idle timer running again, after a TAG replaced the visit, is void (R96). -/
theorem test_a_stale_idle_expiry_is_void : after (.visitIdleTimeout 2) demo = demo := by decide +kernel

/-- The bay with the switch of island 2 closed and its visit replaced. -/
def closed2 (v : Option Visit) : State :=
  { withIsland 2 (fun d => { d with visit := v }) with env := { demo.env with closed := demo.env.closed.set 2 true } }

theorem witness_closed_switch :
    (closed2 none).Ready ∧ (closed2 none).closedSwitch 2 = true ∧ ((closed2 none).island 2).line = .online ∧
      ((closed2 none).island 2).configured = true ∧ ((closed2 none).island 2).exchange = none ∧
      ((closed2 (some (aVisit .waitingHours))).island 2).visit = some (aVisit .waitingHours) ∧
      ((closed2 (some (aVisit .ready))).island 2).visit = some (aVisit .ready) ∧
      ((closed2 (some (aVisit .ending))).island 2).visit = some (aVisit .ending) ∧
      (aVisit .waitingHours).phase = .waitingHours ∧ (aVisit .ending).phase = .ending := by decide +kernel

/-! ## Clock, power and starts -/

theorem witness_SecondsPass : demo.Ready ∧ demo.clock.time < 4294967295 := by decide +kernel

theorem witness_ExpiriesWaitForTheirTimers :
    let p := (after (.meterPulse 3) demo).point 3
    (after (.meterPulse 3) demo).Ready ∧ p.noFlowLeft ≠ some 0 ∧ p.authLeft ≠ some 0 ∧
      (∀ d ∈ (demo.station 2).delivery, d.quietLeft ≠ some 0) ∧ (∀ v ∈ (demo.island 2).visit, v.idle ≠ some 0) ∧
      ∀ e ∈ (bypassing [⟨.sump 1, .a, 60⟩]).bypasses, e.remaining ≠ 0 := by decide +kernel

/-- A pulse and an expiry together: the pulse taken first, the dispense and the delivery go on (R64, R130). -/
theorem test_pulse_before_the_expiry :
    ((after (.noFlowTimeout 3) (after (.meterPulse 3) demo)).point 3).state = .flowing ∧
      ((after (.deliveryNoFlowExpiry 2) (after (.stationMeterPulse 2) demo)).station 2).state = .filling := by
  decide +kernel

/-- The expiry taken first: the dispense is CLOSING and the delivery SETTLING when the pulse arrives (R64, R130). -/
theorem test_expiry_before_the_pulse :
    ((after (.meterPulse 3) (after (.noFlowTimeout 3) demo)).point 3).state = .closing ∧
      ((after (.stationMeterPulse 2) (after (.deliveryNoFlowExpiry 2) demo)).station 2).state = .settling := by
  decide +kernel

/-- Point 7 and station 2 of the worked power failure (10.4), as point 3 on tank 2 and station 2 on tank 3. -/
def powerBay : State :=
  let s := delivering .filling fun d =>
    { d with gross := 501800, pulses := 5018, savedGross := 500000, recorded := 497100 }
  let s := { s with
    stations := s.stations.set 2 { s.station 2 with temp := ⟨some 220, false⟩ }
    points := s.points.set 3
      { s.point 3 with
        k100 := 5000, factor := 10277220, preset := 410000, pulses := 100031, gross := 200062, net := 205608
        savedGross := 200000, recorded := 205544 }
    tanks := (s.tanks.set 2 { s.tank 2 with book := 1004456 }).set 3 { s.tank 3 with book := 2497100 } }
  { s with inflight := s.inflight.set 14 (some (.delivery (deliveryImage 2 .filling (aDelivery 3) 1))) }

theorem test_fill_and_delivery_cut_by_a_power_failure :
    let s := after .powerFailWarning powerBay
    (s.tank 2).book = 1004392 ∧ (s.tank 3).book = 2498890 ∧ (s.account? 1).map (fun a => a.pending) = some 64 ∧
      s.mode = .powerFailHold ∧ s.slowOutput 3 = false := by decide +kernel

theorem witness_PowerIsLost :
    demo.Ready ∧ (demo.entry 3).isSome = true ∧ (demo.point 3).grant = some aGrant ∧ demo.mode ≠ .off ∧
      ({ demo with mode := .off } : State).mode ≠ .running ∧ needsRunning (.meterPulse 3) = true ∧
      runs (.meterPulse 3) { demo with mode := .off } = true ∧ powerBay.Ready ∧ (powerBay.entry 14).isSome = true ∧
      (powerBay.station 2).delivery.isSome = true := by decide +kernel

/-- The bay in one of the modes that a start ends; its memory is in order. -/
def stopped (m : Mode) : State := { demo with mode := m, inflight := Bank.fill 14 none }

/-- A bay whose straps and memory change while it runs, before the next start. -/
def rewired (memory : Option (Bool × Marker)) (s : State) : State :=
  { s with env := { s.env with coming := [⟨some ⟨[1, 4, 7], rfl⟩, memory, none⟩] } }

theorem witness_StartsLoadTheMemory :
    (stopped .running).mem.answers = true ∧ (stopped .running).mem.marker = .present ∧
      (stopped .running).mem.bad = [] ∧ (stopped .running).mem.area = .settled ∧ (stopped .running).mem.fates = [] ∧
      (∀ x ∈ (stopped .running).mem.stored.index.openMarks.items, x = false) ∧
      permitted (stopped .running) .a 0x69 = true ∧ (∀ n ∈ numbers 14, (stopped .running).entry n = none) ∧
      (withBay ⟨true, [⟨.masterStop, 1, 7000, false⟩], false⟩).Takes .a 0x6A ∧ clearAllowed demo = false ∧
      clearAllowed (withBay ⟨true, [⟨.masterStop, 1, 7000, false⟩], false⟩) = true ∧ demo.env.bayStop = false ∧
      demo.env.coming = [] ∧
      (rewired none (stopped .running)).env.coming = [⟨some ⟨[1, 4, 7], rfl⟩, none, none⟩] ∧
      (rewired none demo).nextFinds.memory = none ∧ (rewired none demo).nextFinds.cut = none := by decide +kernel

/-- The rates of the three ports. -/
def rates (s : State) : List Nat := [PortId.a, .b, .c].map fun p => (s.port p).rate

theorem test_a_start_of_command_reads_the_straps :
    let s := after (.restart .a) (rewired none (stopped .running))
    let t := after (.clearAll .a) (rewired none (withBay ⟨true, [⟨.masterStop, 1, 7000, false⟩], false⟩))
    rates s = [19200, 115200, 9600] ∧ s.env.coming = [] ∧ told s .a = [(.started, 0, 3, 0)] ∧
      rates t = [19200, 115200, 9600] ∧ t.env.coming = [] ∧ told t .a = [(.started, 0, 4, 1)] := by decide +kernel

theorem test_restart_finds_a_silent_memory :
    let s := after (.restart .a) (rewired (some (false, .present)) (stopped .running))
    s.unreadable = true ∧ s.bay.stopped = true ∧ told s .a = [(.started, 0, 3, 3)] := by decide +kernel

/-- The bay with every zone stopped, its memory in step and a warning to fall in the next start. -/
def warned : State :=
  { withBay ⟨true, [⟨.masterStop, 1, 7000, false⟩], false⟩ with
    env := { demo.env with coming := [⟨some (Bank.fill 3 4), none, some 0⟩] }
    mem := { demo.mem with stored := image demo } }

theorem test_a_warning_cuts_a_start_of_command :
    let s := after (.restart .a) warned
    let t := after (.clearAll .a) warned
    (s.mode, (s.entry 3).isSome, s.env.coming) = (.powerFailHold, true, []) ∧
      (t.mode, t.mem.marker, t.accounts) = (.powerFailHold, .erased, []) := by decide +kernel

theorem test_restart_leaves_every_zone_shut_down :
    let s := after (.restart .a) { stopped .running with mem := { demo.mem with stored := image (stopped .running) } }
    [1, 2, 3, 4, 6].map s.zoneState = [.shutdown, .shutdown, .shutdown, .shutdown, .shutdown] ∧
      (s.tank 1).book = 2000000 ∧ (s.tank 1).gauge = .unknown ∧ s.log.ticket = 8 ∧
      told s .a = [(.started, 0, 3, 0)] := by decide +kernel

/-- The bay whose next write group fails. -/
def failing : State := { demo with mem := { demo.mem with fates := [.failsStep1] } }

theorem witness_WriteFailuresStopTheBay :
    failing.mode = .running ∧ failing.Quiet .a ∧ permitted failing .a 0x40 = true ∧ classOfCode 1 = some .fuel ∧
      (failing.product 1).cls = .fuel ∧ failing.unreadable = false ∧ failing.mem.answers = true ∧
      failing.mem.fates = [.failsStep1] ∧ failing.bay = ⟨false, [], false⟩ := by decide +kernel

/-- The part after reset, its next write group failing in a step. -/
def freshFailing (f : Fate) : State := { State.reset with mem := { State.reset.mem with fates := [f] } }

theorem witness_failed_groups :
    State.reset.Ready ∧ State.reset.unreadable = false ∧ mayStart State.reset (.productSet .a 1 1 830) = false ∧
      runs (.productSet .a 1 1 830) State.reset = true ∧
      groupKeys (image State.reset) (image (after (.productSet .a 1 1 830) State.reset)) [] = [.product 1] ∧
      permitted State.reset .a 0x40 = true ∧ (State.reset.product 1).cls = .fuel ∧
      (∀ i ∈ numbers 12, (State.reset.point i).state = .outOfService) ∧
      (∀ m ∈ numbers 2, (State.reset.station m).state = .idle) ∧ (freshFailing .failsStep3).touched = [] := by
  decide +kernel

theorem witness_failing_in_step : InStep (freshFailing .failsStep3) := by unfold InStep; decide +kernel

theorem test_each_step_of_a_group_may_fail :
    let m (f : Fate) := (after (.productSet .a 1 1 830) (freshFailing f)).mem
    let written (f : Fate) := ((m f).stored.products.get? 1).map fun x => x.configured
    (m .failsStep1).area = .incomplete ∧ written .failsStep1 = some false ∧ (m (.failsStep2 0)).bad = [.product 1] ∧
      written .failsStep3 = some true ∧ (m .failsStep3).bad = [] := by decide +kernel

end Sys2Proof.Tests
end

/-! PROOFS. Chapter 01: saturation, net, gross, temperature, strap tables and hour readings (O11 to O14). -/

namespace Sys2Proof.Machine

/-! ## Saturation, net and the correction factor (R2, R6, R7) -/

@[simp] theorem sat32_of_le {n : Nat} (h : n ≤ 4294967295) : sat32 n = n := Nat.min_eq_left h

theorem sat32_of_ge {n : Nat} (h : 4294967295 ≤ n) : sat32 n = 4294967295 := Nat.min_eq_right h

theorem sat32_mono {m n : Nat} (h : m ≤ n) : sat32 m ≤ sat32 n := by
  unfold sat32
  omega

@[simp] theorem workingTemp_absent : workingTemp TempSource.absent = 150 := rfl

@[simp] theorem workingTemp_sourceAfter (x : Int) : workingTemp (sourceAfter x) = clampTemp x := rfl

theorem factorOf_zero_alpha (t : Int) : factorOf 0 t = 10000000 := by simp [factorOf]

theorem factorOf_base_temp (alpha : Nat) : factorOf alpha 150 = 10000000 := by simp [factorOf]

/-- A correction factor of 1 gives net equal to gross. -/
theorem netOf_unit_factor {g : Nat} (h : g ≤ 4294967295) : netOf g 10000000 = g := by
  have e : (g * 10000000 + 5000000) / 10000000 = g := by omega
  rw [netOf, e, sat32_of_le h]

theorem netOf_mono {g g' : Nat} (F : Nat) (h : g ≤ g') : netOf g F ≤ netOf g' F :=
  sat32_mono (Nat.div_le_div_right (Nat.add_le_add_right (Nat.mul_le_mul_right F h) _))

/-- Settles O11, by the arithmetic of R7 and the bounds of R1. -/
theorem netRoundsHalfUp : Obligations.NetRoundsHalfUp := by
  intro g F
  refine ⟨rfl, netOf_unit_factor, factorOf_zero_alpha, factorOf_base_temp, fun g' => netOf_mono F, ?_, ?_⟩
  · intro h
    exact sat32_of_ge (by omega)
  · intro hg hF
    have : g * F ≤ 4294967295 * 11100000 := Nat.mul_le_mul hg hF
    omega

/-! ## Gross and temperature (R3 to R6) -/

theorem grossOf_mono {m n : Nat} (k100 : Nat) (h : m ≤ n) : grossOf m k100 ≤ grossOf n k100 :=
  sat32_mono (Nat.div_le_div_right (Nat.mul_le_mul_right _ h))

/-- One pulse more raises the unsaturated quotient of R3 by its whole part, or by one centilitre more. -/
theorem pulse_quotient_succ (pulses : Nat) {k100 : Nat} (hk : 0 < k100) :
    (pulses + 1) * 10000 / k100 = pulses * 10000 / k100 + 10000 / k100 ∨
      (pulses + 1) * 10000 / k100 = pulses * 10000 / k100 + 10000 / k100 + 1 := by
  rw [Nat.add_mul, Nat.one_mul, Nat.add_div hk]
  split
  · exact .inr rfl
  · exact .inl rfl

/-- Below its limit gross follows the quotient of R3 (R2). -/
theorem grossOf_succ {pulses k100 : Nat} (hk : 0 < k100) (h : (pulses + 1) * 10000 / k100 ≤ 4294967295) :
    grossOf (pulses + 1) k100 = grossOf pulses k100 + 10000 / k100 ∨
      grossOf (pulses + 1) k100 = grossOf pulses k100 + 10000 / k100 + 1 := by
  have hq := pulse_quotient_succ pulses hk
  have hp : pulses * 10000 / k100 ≤ 4294967295 :=
    Nat.le_trans (Nat.div_le_div_right (Nat.mul_le_mul_right _ pulses.le_succ)) h
  simpa only [grossOf, sat32_of_le h, sat32_of_le hp] using hq

theorem clampTemp_eq (x : Int) : clampTemp x = if x < -400 then -400 else if 800 < x then 800 else x := by
  unfold clampTemp
  split
  · omega
  · split <;> omega

theorem clampTemp_bounds (x : Int) : -400 ≤ clampTemp x ∧ clampTemp x ≤ 800 := by
  unfold clampTemp
  omega

/-- For the products and temperatures of R2 and R4 the factor stays inside its bounds (R6). -/
theorem factorOf_bounds {alpha : Nat} {t : Int} (ha : alpha ≤ 2000) (hl : -400 ≤ t) (hh : t ≤ 800) :
    (factorOf alpha t : Int) = 10000000 - (alpha : Int) * (t - 150) ∧ 8700000 ≤ factorOf alpha t ∧
      factorOf alpha t ≤ 11100000 := by
  have hn : (0 : Int) ≤ alpha := Int.natCast_nonneg alpha
  have low : (alpha : Int) * (t - 150) ≤ alpha * 650 := Int.mul_le_mul_of_nonneg_left (by omega) hn
  have high : (alpha : Int) * -550 ≤ alpha * (t - 150) := Int.mul_le_mul_of_nonneg_left (by omega) hn
  unfold factorOf
  generalize (alpha : Int) * (t - 150) = x at *
  omega

/-- Settles O12, by the quotient of R3 and the bounds of the clamped temperature. -/
theorem meteredFiguresFollowTheirRules : Obligations.MeteredFiguresFollowTheirRules := by
  refine ⟨fun pulses k100 hk => ⟨rfl, grossOf_mono k100 (Nat.le_succ _), grossOf_succ hk⟩, ?_⟩
  intro x alpha hold ha
  obtain ⟨hl, hh⟩ := clampTemp_bounds x
  obtain ⟨hf, hf8, hf11⟩ := factorOf_bounds ha hl hh
  exact ⟨clampTemp_eq x, rfl, decide_eq_true_iff, hf, hf8, hf11, rfl, rfl, rfl⟩

/-! ## Strap tables (R10, R11) -/

/-- A strap table whose levels rise and whose volumes do not fall (R43). -/
abbrev Rising (rows : List StrapRow) : Prop := rows.Pairwise fun a b => a.level < b.level ∧ a.vol ≤ b.vol

theorem volumeAt_below {r : StrapRow} {level : Nat} (back : List StrapRow) (h : level < r.level) :
    volumeAt (r :: back) level = r.vol := by
  cases back with
  | nil => rfl
  | cons q rest => rw [volumeAt, if_pos h]

theorem volumeAt_between {r q : StrapRow} {level : Nat} (back : List StrapRow) (hr : r.level ≤ level)
    (hq : level < q.level) :
    volumeAt (r :: q :: back) level = r.vol + (q.vol - r.vol) * (level - r.level) / (q.level - r.level) := by
  rw [volumeAt, if_neg (Nat.not_lt.mpr hr), if_pos hq]

theorem volumeAt_above_next {r q : StrapRow} {level : Nat} (back : List StrapRow) (h : r.level ≤ q.level)
    (hq : q.level ≤ level) : volumeAt (r :: q :: back) level = volumeAt (q :: back) level := by
  rw [volumeAt, if_neg (by omega), if_neg (by omega)]

/-- From a row's level on, the rows before it play no part. -/
theorem volumeAt_append {front : List StrapRow} {r : StrapRow} {back : List StrapRow} {level : Nat}
    (hs : Rising (front ++ r :: back)) (h : r.level ≤ level) :
    volumeAt (front ++ r :: back) level = volumeAt (r :: back) level := by
  induction front with
  | nil => rfl
  | cons a front ih =>
    obtain ⟨ha, hs⟩ := List.pairwise_cons.mp hs
    have hle : ∀ b ∈ front ++ [r], b.level ≤ level := by
      intro b hb
      rcases List.mem_append.mp hb with hb | hb
      · have := (List.pairwise_append.mp hs).2.2 b hb r (List.mem_cons_self ..)
        omega
      · rw [List.mem_singleton.mp hb]; exact h
    cases front with
    | nil => exact volumeAt_above_next back (Nat.le_of_lt (ha r (List.mem_cons_self ..)).1) h
    | cons b front =>
      rw [← ih hs]
      exact volumeAt_above_next _ (Nat.le_of_lt (ha b (List.mem_cons_self ..)).1) (hle b (List.mem_cons_self ..))

/-- The line between two rows stays between their volumes. -/
theorem interpolation_le {a b x d : Nat} (h : a ≤ b) (hx : x ≤ d) : a + (b - a) * x / d ≤ b := by
  have : (b - a) * x / d ≤ b - a := Nat.div_le_of_le_mul (by rw [Nat.mul_comm d]; exact Nat.mul_le_mul_left _ hx)
  omega

/-- No level gives less than the first row's volume. -/
theorem first_vol_le_volumeAt {r : StrapRow} {back : List StrapRow} (hs : Rising (r :: back)) (level : Nat) :
    r.vol ≤ volumeAt (r :: back) level := by
  induction back generalizing r with
  | nil => exact Nat.le_refl _
  | cons q back ih =>
    obtain ⟨hr, hs'⟩ := List.pairwise_cons.mp hs
    obtain ⟨hlevel, hvol⟩ := hr q (List.mem_cons_self ..)
    rcases Nat.lt_or_ge level r.level with h | h
    · exact Nat.le_of_eq (volumeAt_below _ h).symm
    · rcases Nat.lt_or_ge level q.level with hq | hq
      · rw [volumeAt_between _ h hq]
        exact Nat.le_add_right _ _
      · rw [volumeAt_above_next _ (Nat.le_of_lt hlevel) hq]
        exact Nat.le_trans hvol (ih hs')

theorem volumeAt_mono {rows : List StrapRow} (hs : Rising rows) {low high : Nat} (h : low ≤ high) :
    volumeAt rows low ≤ volumeAt rows high := by
  induction rows with
  | nil => exact Nat.le_refl _
  | cons r back ih =>
    cases back with
    | nil => exact Nat.le_refl _
    | cons q back =>
      obtain ⟨hr, hs'⟩ := List.pairwise_cons.mp hs
      obtain ⟨hlevel, hvol⟩ := hr q (List.mem_cons_self ..)
      rcases Nat.lt_or_ge low r.level with hl | hl
      · rw [volumeAt_below _ hl]
        exact first_vol_le_volumeAt hs high
      · rcases Nat.lt_or_ge low q.level with hq | hq
        · rw [volumeAt_between _ hl hq]
          rcases Nat.lt_or_ge high q.level with hh | hh
          · rw [volumeAt_between _ (Nat.le_trans hl h) hh]
            exact Nat.add_le_add_left
              (Nat.div_le_div_right (Nat.mul_le_mul_left _ (Nat.sub_le_sub_right h _))) _
          · rw [volumeAt_above_next _ (Nat.le_of_lt hlevel) hh]
            calc r.vol + (q.vol - r.vol) * (low - r.level) / (q.level - r.level)
                ≤ q.vol := interpolation_le hvol (by omega)
              _ ≤ volumeAt (q :: back) high := first_vol_le_volumeAt hs' high
        · rw [volumeAt_above_next _ (Nat.le_of_lt hlevel) hq, volumeAt_above_next _ (Nat.le_of_lt hlevel) (Nat.le_trans hq h)]
          exact ih hs'

theorem aboveTable_append (front : List StrapRow) (r : StrapRow) (level : Nat) :
    aboveTable (front ++ [r]) level = decide (r.level ≤ level) := by
  simp [aboveTable]

/-- A level below the first row is below the last one too. -/
theorem aboveTable_below {r : StrapRow} {back : List StrapRow} {level : Nat} (hs : Rising (r :: back))
    (h : level < r.level) : aboveTable (r :: back) level = false := by
  rcases List.eq_nil_or_concat back with rfl | ⟨mid, q, rfl⟩
  · exact (aboveTable_append [] r level).trans (decide_eq_false (by omega))
  · have hq := ((List.pairwise_cons.mp hs).1 q (by simp)).1
    rw [List.concat_eq_append, ← List.cons_append, aboveTable_append]
    exact decide_eq_false (by omega)

/-- Settles O13, the rows before the bracketing pair being dropped by `volumeAt_append`. -/
theorem strapTableInterpolates : Obligations.StrapTableInterpolates := by
  intro rows hs
  refine ⟨?_, ?_, ?_, fun low high => volumeAt_mono hs⟩
  · rintro front back r q level rfl hr hq
    rw [volumeAt_append hs hr, volumeAt_between back hr hq]
  · rintro r back level rfl h
    exact ⟨volumeAt_below back h, aboveTable_below hs h⟩
  · rintro front r level rfl
    refine ⟨fun h => (volumeAt_append hs h).trans rfl, ?_⟩
    rw [aboveTable_append, decide_eq_true_iff]

/-! ## Hour readings (R14, R15) -/

/-- A reading out of range: above 9,999,999, or not below the rollover limit (R14). -/
def ReadingOutOfRange (m : Option Nat) (h : Nat) : Prop := 9999999 < h ∨ ∃ x, m = some x ∧ x ≤ h

/-- A delta above the bound of R15, where that bound applies. -/
def DeltaJumps (clock : Clock) (last : Option Nat) (d : Nat) : Prop :=
  clock.set = true ∧ ∃ t, last = some t ∧ (clock.time - t) / 360 + 10 < d

theorem hourDelta_range {m : Option Nat} {h : Nat} (l : Nat) (hr : ReadingOutOfRange m h) :
    hourDelta l m h = .error .range := by
  cases m with
  | none =>
    obtain hh | ⟨x, hx, -⟩ := hr
    · exact if_pos hh
    · cases hx
  | some x =>
    refine if_pos ?_
    obtain hh | ⟨y, hy, hle⟩ := hr
    · exact .inl hh
    · cases hy; exact .inr hle

theorem hourDelta_forward {l h : Nat} {m : Option Nat} (hr : ¬ ReadingOutOfRange m h) (hl : l ≤ h) :
    hourDelta l m h = .ok (h - l) := by
  obtain ⟨hh, hm⟩ := not_or.mp hr
  cases m with
  | none => exact (if_neg hh).trans (if_pos hl)
  | some x => exact (if_neg (not_or.mpr ⟨hh, fun hx => hm ⟨x, rfl, hx⟩⟩)).trans (if_pos hl)

theorem hourDelta_wrap {l h x : Nat} (hr : ¬ ReadingOutOfRange (some x) h) (hl : h < l) (hh : h < 10000)
    (hx : x ≤ l + 10000) : hourDelta l (some x) h = .ok (h + x - l) := by
  obtain ⟨hb, hm⟩ := not_or.mp hr
  rw [hourDelta, if_neg (not_or.mpr ⟨hb, fun hx => hm ⟨x, rfl, hx⟩⟩), if_neg (by omega), if_pos ⟨hx, hh⟩]

theorem hourDelta_regression {l h : Nat} {m : Option Nat} (hr : ¬ ReadingOutOfRange m h) (hl : h < l)
    (hw : ∀ x, m = some x → ¬ (x ≤ l + 10000 ∧ h < 10000)) : hourDelta l m h = .error .regression := by
  obtain ⟨hb, hm⟩ := not_or.mp hr
  cases m with
  | none => rw [hourDelta, if_neg hb, if_neg (by omega)]
  | some x =>
    rw [hourDelta, if_neg (not_or.mpr ⟨hb, fun hx => hm ⟨x, rfl, hx⟩⟩), if_neg (by omega), if_neg (hw x rfl)]

theorem judgeReading_error {l h : Nat} {m : Option Nat} {r : HoursRefusal} (clock : Clock) (last : Option Nat)
    (hd : hourDelta l m h = .error r) : judgeReading clock l m last h = .refused r := by
  rw [judgeReading, hd]

theorem judgeReading_jump {clock : Clock} {l h d : Nat} {m last : Option Nat} (hd : hourDelta l m h = .ok d)
    (hj : DeltaJumps clock last d) : judgeReading clock l m last h = .refused .jump := by
  obtain ⟨hset, t, rfl, ht⟩ := hj
  simp only [judgeReading, hd, hset]
  exact if_pos ht

theorem judgeReading_accepted {clock : Clock} {l h d : Nat} {m last : Option Nat} (hd : hourDelta l m h = .ok d)
    (hj : ¬ DeltaJumps clock last d) : judgeReading clock l m last h = .accepted d := by
  simp only [judgeReading, hd]
  split
  next t hset => exact if_neg fun ht => hj ⟨hset, t, rfl, ht⟩
  next => rfl

/-- Settles O14, by the four outcomes of the delta and the two of R15. -/
theorem readingsAreJudgedInOrder : Obligations.ReadingsAreJudgedInOrder := by
  intro clock l h m last
  refine ⟨fun hr => judgeReading_error clock last (hourDelta_range l hr),
    fun hr hl => judgeReading_jump (hourDelta_forward hr hl),
    fun hr hl => judgeReading_accepted (hourDelta_forward hr hl), ?_, ?_, ?_⟩
  · rintro x rfl hr ⟨hl, hh, y, hy, hx⟩
    cases hy
    exact judgeReading_jump (hourDelta_wrap hr hl hh (by omega))
  · rintro x rfl hr ⟨hl, hh, y, hy, hx⟩
    cases hy
    exact judgeReading_accepted (hourDelta_wrap hr hl hh (by omega))
  · intro hr hl hw
    refine judgeReading_error clock last (hourDelta_regression hr hl ?_)
    rintro x rfl ⟨hx, hh⟩
    exact hw ⟨hl, hh, x, rfl, by omega⟩

end Sys2Proof.Machine

/-! PROOFS. Frames: what every save, closing, pump, delivery and told neighbour leaves standing, what an arriving cause
makes of its zone, and `State.Steady` read off from both. -/

namespace Sys2Proof

/-! ## Banks, whatever the number written -/

/-- A number the bank does not have is written without effect. -/
theorem Bank.set_of_not_range {α : Type} {n : Nat} (b : Bank α n) {k : Nat} (a : α) (h : ¬ (1 ≤ k ∧ k ≤ n)) :
    b.set k a = b := by
  cases k with
  | zero => rfl
  | succ k => ext1; exact List.set_eq_of_length_le (by rw [b.size]; omega)

/-- A number the bank does not have reads as the default. -/
theorem Bank.getD_of_not_range {α : Type} {n : Nat} (b : Bank α n) {k : Nat} (d : α) (h : ¬ (1 ≤ k ∧ k ≤ n)) :
    b.getD k d = d := by
  cases k with
  | zero => rfl
  | succ k =>
    have : b.items[k]? = none := List.getElem?_eq_none (by rw [b.size]; omega)
    simp [Bank.getD, Bank.get?, this]

/-- A write leaves each object with its relation to what stood there, if it does so to the object it replaces. -/
theorem Bank.getD_set_rel {α : Type} {n : Nat} {b : Bank α n} {k : Nat} {a d : α} {R : α → α → Prop}
    (hr : ∀ x, R x x) (h : R (b.getD k d) a) (j : Nat) : R (b.getD j d) ((b.set k a).getD j d) := by
  by_cases hj : j = k
  · subst hj
    by_cases hk : 1 ≤ j ∧ j ≤ n
    · rwa [Bank.getD_set_same _ _ _ hk]
    · rw [Bank.set_of_not_range _ _ hk]; exact hr _
  · rw [Bank.getD_set_ne _ _ _ hj]; exact hr _

namespace Machine

/-! ## What saves, closings, pumps, deliveries and told neighbours leave standing -/

/-- A tank without what dispenses, deliveries and its pump change of it: its books, commitments, pump and window. -/
def Tank.still (k : Tank) : Tank :=
  { k with
    book := 0, receipts := 0, dispensed := 0, commitments := [], pump := ⟨.off, none, none⟩, window := Window.shut }

/-- What stands through every answer of the points, tanks and stations to a save, a zone or the bay. -/
structure Standing where
  tanks : Nat → Tank
  points : Nat → PointSettings
  islands : Nat → IslandKept
  stations : Nat → StationKept
  zones : Bank Zone 6

/-- That part of a state. -/
def State.standing (s : State) : Standing :=
  ⟨fun t => (s.tank t).still, fun i => (s.point i).settings, fun i => (s.island i).toIslandKept,
    fun n => (s.station n).toStationKept, s.zones⟩

theorem tank_still_of_standing {s u : State} (h : u.standing = s.standing) (t : Nat) :
    (u.tank t).still = (s.tank t).still := congrFun (congrArg Standing.tanks h) t

theorem zones_of_standing {s u : State} (h : u.standing = s.standing) : u.zones = s.zones :=
  congrArg Standing.zones h

theorem zone_of_standing {s u : State} (h : u.standing = s.standing) (z : Nat) : u.zone z = s.zone z :=
  congrArg (fun b : Bank Zone 6 => b.getD z Zone.cold) (zones_of_standing h)

/-! ## The updates -/

@[simp] theorem State.setTank_standing {s : State} {t : Nat} {k : Tank} (h : k.still = (s.tank t).still) :
    (s.setTank t k).standing = s.standing :=
  congrArg (fun f => { s.standing with tanks := f }) (funext fun m =>
    Bank.getD_set_rel (R := fun x y : Tank => y.still = x.still) (fun _ => rfl) h m)

@[simp] theorem State.modTank_standing {s : State} {t : Nat} {f : Tank → Tank} (h : ∀ k, (f k).still = k.still) :
    (s.modTank t f).standing = s.standing := State.setTank_standing (h _)

@[simp] theorem State.setPoint_standing {s : State} {i : Nat} {p : Point}
    (h : p.settings = (s.point i).settings) : (s.setPoint i p).standing = s.standing :=
  congrArg (fun f => { s.standing with points := f }) (funext fun m =>
    Bank.getD_set_rel (R := fun x y : Point => y.settings = x.settings) (fun _ => rfl) h m)

@[simp] theorem State.modPoint_standing {s : State} {i : Nat} {f : Point → Point}
    (h : ∀ p, (f p).settings = p.settings) : (s.modPoint i f).standing = s.standing :=
  State.setPoint_standing (h _)

@[simp] theorem State.setStation_standing {s : State} {n : Nat} {d : Station}
    (h : d.toStationKept = (s.station n).toStationKept) : (s.setStation n d).standing = s.standing :=
  congrArg (fun f => { s.standing with stations := f }) (funext fun m =>
    Bank.getD_set_rel (R := fun x y : Station => y.toStationKept = x.toStationKept) (fun _ => rfl) h m)

@[simp] theorem State.setEntry_standing (s : State) (n : Nat) (e : Option Entry) :
    (s.setEntry n e).standing = s.standing := rfl
@[simp] theorem State.setAccount_standing (s : State) (n : Nat) (a : Account) :
    (s.setAccount n a).standing = s.standing := rfl
@[simp] theorem State.touch_standing (s : State) (k : ObjKey) : (s.touch k).standing = s.standing := rfl
theorem State.withLog_standing (s : State) (l : Log) : ({ s with log := l } : State).standing = s.standing := rfl
theorem State.withBay_standing (s : State) (b : Bay) : ({ s with bay := b } : State).standing = s.standing := rfl

@[simp] theorem raiseTo_standing (aud : Audience) (kind : NoticeKind) (subject : SubjectKind) (number : Nat)
    (first second : Int) (s : State) : (raiseTo aud kind subject number first second s).standing = s.standing :=
  raiseTo_keeps (fun _ _ _ => rfl) ..

@[simp] theorem raise_standing (kind : NoticeKind) (subject : SubjectKind) (number : Nat) (first second : Int)
    (s : State) : (raise kind subject number first second s).standing = s.standing := raiseTo_standing ..

@[simp] theorem judgeSpace_standing (s : State) : (judgeSpace s).standing = s.standing := by
  unfold judgeSpace
  split
  · exact raise_standing ..
  · split <;> rfl

@[simp] theorem releaseSlot_standing (n : Nat) (s : State) : (releaseSlot n s).standing = s.standing := by
  simp [releaseSlot, State.withLog_standing]

@[simp] theorem accountSave_standing (n : Nat) (c : ProductClass) (q : Nat) (s : State) :
    (accountSave n c q s).standing = s.standing := by
  unfold accountSave State.modAccount
  split <;> simp

/-! ## Changes of a tank that leave it still -/

@[simp] theorem Tank.setPump_still (k : Tank) (p : PumpState) (start runOn : Option Nat) :
    (k.setPump p start runOn).still = k.still := by rfl
@[simp] theorem Tank.takeDispense_still (k : Tank) (point inc recorded : Nat) :
    (k.takeDispense point inc recorded).still = k.still := by rfl
@[simp] theorem Tank.takeReceipt_still (k : Tank) (inc : Nat) : (k.takeReceipt inc).still = k.still := by rfl
@[simp] theorem removeCommitment_still (i : Nat) (k : Tank) : (removeCommitment i k).still = k.still := by rfl
@[simp] theorem Tank.withWindow_still (k : Tank) (w : Window) : ({ k with window := w } : Tank).still = k.still := by
  rfl

/-! ## Points, tanks and pumps -/

@[simp] theorem openWindow_standing (t : Nat) (s : State) : (openWindow t s).standing = s.standing := by
  unfold openWindow
  dsimp only
  split <;> simp

@[simp] theorem settleReview_standing (t : Nat) (s : State) : (settleReview t s).standing = s.standing := by
  unfold settleReview
  dsimp only
  split <;> simp

@[simp] theorem pumpReview_standing (t : Nat) (s : State) : (pumpReview t s).standing = s.standing := by
  unfold pumpReview
  dsimp only
  repeat' split
  all_goals simp

@[simp] theorem pumpStopped_standing (t : Nat) (s : State) : (pumpStopped t s).standing = s.standing := by
  unfold pumpStopped
  dsimp only
  split <;> simp

@[simp] theorem saveCore_standing (i : Nat) (s : State) : (saveCore i s).standing = s.standing := by
  unfold saveCore
  split
  · rfl
  dsimp only
  split <;> simp

@[simp] theorem closeCore_standing (i : Nat) (code : EndCode) (s : State) :
    (closeCore i code s).standing = s.standing := by
  simp [closeCore]

@[simp] theorem evalLow_standing (t : Nat) (s : State) : (evalLow t s).standing = s.standing := by
  unfold evalLow
  split
  · apply foldl_keeps
    intro s i
    split <;> simp
  · rfl

@[simp] theorem evalIfBook_standing (t : Nat) (s : State) : (evalIfBook t s).standing = s.standing := by
  unfold evalIfBook
  split <;> simp

@[simp] theorem save_standing (i : Nat) (s : State) : (save i s).standing = s.standing := by simp [save]

@[simp] theorem enterClosing_standing (i : Nat) (code : EndCode) (s : State) :
    (enterClosing i code s).standing = s.standing := by
  simp [enterClosing]

@[simp] theorem enterHeld_standing (i : Nat) (s : State) : (enterHeld i s).standing = s.standing := by
  simp [enterHeld]

@[simp] theorem dropGrant_standing (i : Nat) (s : State) : (dropGrant i s).standing = s.standing := by
  simp [dropGrant]

@[simp] theorem dropFor_standing (i detail : Nat) (s : State) : (dropFor i detail s).standing = s.standing := by
  simp [dropFor]

@[simp] theorem pointZoneLeft_standing (i : Nat) (s : State) : (pointZoneLeft i s).standing = s.standing := by
  unfold pointZoneLeft
  split <;> simp

@[simp] theorem pointShutdown_standing (i detail : Nat) (s : State) :
    (pointShutdown i detail s).standing = s.standing := by
  unfold pointShutdown
  split <;> simp

/-! ## Deliveries -/

@[simp] theorem stationSave_standing (n : Nat) (s : State) : (stationSave n s).standing = s.standing := by
  unfold stationSave
  dsimp only
  split <;> simp

@[simp] theorem enterPaused_standing (n : Nat) (s : State) : (enterPaused n s).standing = s.standing := by
  unfold enterPaused
  dsimp only
  split <;> simp

@[simp] theorem enterSettling_standing (n : Nat) (code : EndCode) (s : State) :
    (enterSettling n code s).standing = s.standing := by
  unfold enterSettling
  dsimp only
  split <;> simp

@[simp] theorem deliverySample_standing (t : Nat) (s : State) : (deliverySample t s).standing = s.standing := by
  unfold deliverySample
  dsimp only
  repeat' split
  all_goals simp

@[simp] theorem deliveryOverfill_standing (t : Nat) (s : State) : (deliveryOverfill t s).standing = s.standing := by
  unfold deliveryOverfill
  dsimp only
  repeat' split
  all_goals simp

@[simp] theorem stationZoneLeft_standing (n : Nat) (s : State) : (stationZoneLeft n s).standing = s.standing := by
  unfold stationZoneLeft
  split <;> simp

@[simp] theorem stationShutdown_standing (n : Nat) (s : State) : (stationShutdown n s).standing = s.standing := by
  unfold stationShutdown
  split <;> simp

/-! ## Told neighbours and the bay -/

@[simp] theorem tellLeft_standing (z : Nat) (s : State) : (tellLeft z s).standing = s.standing :=
  tell_keeps pointZoneLeft_standing pumpStopped_standing stationZoneLeft_standing _ _ _ s

@[simp] theorem tellShutdown_standing (z : Nat) (s : State) : (tellShutdown z s).standing = s.standing :=
  tell_keeps (fun i => pointShutdown_standing i 1) pumpStopped_standing stationShutdown_standing _ _ _ s

@[simp] theorem tellBayStop_standing (s : State) : (tellBayStop s).standing = s.standing :=
  tell_keeps (fun i => pointShutdown_standing i 2) pumpStopped_standing stationShutdown_standing _ _ _ s

@[simp] theorem bayCauseWith_standing (told : Bool) (kind : CauseKind) (subject : Nat) (s : State) :
    (bayCauseWith told kind subject s).standing = s.standing := by
  unfold bayCauseWith
  dsimp only
  repeat' split
  all_goals simp [State.withBay_standing]

@[simp] theorem escalate_standing (z : Nat) (s : State) : (escalate z s).standing = s.standing := by
  unfold escalate
  split <;> simp [bayCause]

/-! ## A cause and its zone (R145 to R151) -/

/-- A zone as an arriving cause leaves it: the cause entered, and the state that a SUSPECT kind or another calls for. -/
def Zone.taking (d : Zone) (kind : CauseKind) (subject now : Nat) : Zone :=
  let e := enterZone kind subject now d
  match d.state, suspectKind kind with
  | .normal, true => { e with state := .suspect, confirmLeft := some e.confirmTime }
  | .suspect, true | .shutdown, _ => e
  | .normal, false | .suspect, false => { e with state := .shutdown, confirmLeft := none }

@[simp] theorem enterZone_kept (kind : CauseKind) (subject now : Nat) (d : Zone) :
    (enterZone kind subject now d).toZoneKept = d.toZoneKept := by
  unfold enterZone
  split <;> rfl

@[simp] theorem enterZone_state (kind : CauseKind) (subject now : Nat) (d : Zone) :
    (enterZone kind subject now d).state = d.state := by
  unfold enterZone
  split <;> rfl

@[simp] theorem Zone.taking_kept (d : Zone) (kind : CauseKind) (subject now : Nat) :
    (d.taking kind subject now).toZoneKept = d.toZoneKept := by
  unfold Zone.taking
  dsimp only
  split <;> exact enterZone_kept kind subject now d

/-- Only the SUSPECT kinds leave a zone short of SHUTDOWN. -/
theorem Zone.taking_state (d : Zone) {kind : CauseKind} (subject now : Nat) (h : suspectKind kind = false) :
    (d.taking kind subject now).state = .shutdown := by
  unfold Zone.taking
  rw [h]
  cases hs : d.state <;> simp [hs]

theorem Zone.taking_causes (d : Zone) (kind : CauseKind) (subject now : Nat) :
    (d.taking kind subject now).causes = (enterZone kind subject now d).causes := by
  unfold Zone.taking
  dsimp only
  split <;> rfl

/-- A list with an entry for the pair has one after a cause of the pair. -/
theorem mem_enterList (kind : CauseKind) (subject now : Nat) (l : List Cause) :
    ∃ c ∈ enterList kind subject now l, c.kind = kind ∧ c.subject = subject := by
  unfold enterList
  split
  next h =>
    obtain ⟨c, hc, hfor⟩ := List.any_eq_true.mp h
    have hpair : c.kind = kind ∧ c.subject = subject := by simpa [Cause.isFor] using hfor
    split
    · refine ⟨{ c with active := true }, List.mem_map.mpr ⟨c, hc, ?_⟩, hpair⟩
      rw [if_pos hfor]
    · exact ⟨c, hc, hpair⟩
  next => exact ⟨⟨kind, subject, now, levelKind kind⟩, by simp, rfl, rfl⟩

/-- A zone whose list has room holds the cause that arrives (R146). -/
theorem Zone.mem_taking {d : Zone} (kind : CauseKind) (subject now : Nat) (h : d.causes.length < 16) :
    ∃ c ∈ (d.taking kind subject now).causes, c.kind = kind ∧ c.subject = subject := by
  rw [Zone.taking_causes, enterZone, if_neg (by omega)]
  exact mem_enterList kind subject now d.causes

theorem goSuspect_standing (z code subject : Nat) (s : State) :
    (goSuspect z code subject s).standing =
      (s.modZone z fun d => { d with state := .suspect, confirmLeft := some d.confirmTime }).standing := by
  simp [goSuspect]

theorem goShutdown_standing (z code subject : Nat) (s : State) :
    (goShutdown z code subject s).standing =
      (s.modZone z fun d => { d with state := .shutdown, confirmLeft := none }).standing := by
  simp [goShutdown]

theorem causeActs_standing {z : Nat} (kind : CauseKind) (subject : Nat) (s : State) (hz : 1 ≤ z ∧ z ≤ 6) :
    (causeActs z kind subject s).standing = (s.setZone z ((s.zone z).taking kind subject s.now)).standing := by
  unfold causeActs
  dsimp only
  split
  next hs hk => simp [goSuspect_standing, State.modZone, hz, Zone.taking, hs, hk]
  next hs hk => split <;> simp [State.modZone, Zone.taking, hs, hk]
  next hs hk => simp [goShutdown_standing, State.modZone, hz, Zone.taking, hs, hk]
  next hs hk => simp [goShutdown_standing, State.modZone, hz, Zone.taking, hs, hk]
  next hs =>
    repeat' split
    all_goals simp [State.modZone, Zone.taking, hs]

/-- A configured zone is one of the bay's. -/
theorem zone_range {s : State} {z : Nat} (h : (s.zone z).configured = true) : 1 ≤ z ∧ z ≤ 6 := by
  by_cases hz : 1 ≤ z ∧ z ≤ 6
  · exact hz
  · rw [State.zone, Bank.getD_of_not_range _ _ hz] at h
    cases h

/-- A cause that arrives for a configured zone leaves all standing but that zone. -/
theorem causeArrives_standing {z : Nat} (kind : CauseKind) (subject : Nat) {s : State}
    (h : (s.zone z).configured = true) :
    (causeArrives z kind subject s).standing = (s.setZone z ((s.zone z).taking kind subject s.now)).standing := by
  have hacts := causeActs_standing kind subject s (zone_range h)
  unfold causeArrives
  rw [if_neg (by simp [h])]
  dsimp only
  split <;> simp [hacts]

theorem causeArrives_unconfigured {z : Nat} (kind : CauseKind) (subject : Nat) {s : State}
    (h : (s.zone z).configured = false) : causeArrives z kind subject s = s := if_pos h

@[simp] theorem causeArrives_tank_still (z : Nat) (kind : CauseKind) (subject : Nat) (s : State) (t : Nat) :
    ((causeArrives z kind subject s).tank t).still = (s.tank t).still := by
  cases h : (s.zone z).configured with
  | false => rw [causeArrives_unconfigured kind subject h]
  | true => exact tank_still_of_standing (causeArrives_standing kind subject h) t

theorem causeArrives_zone {z : Nat} (kind : CauseKind) (subject : Nat) {s : State}
    (h : (s.zone z).configured = true) :
    (causeArrives z kind subject s).zone z = (s.zone z).taking kind subject s.now := by
  rw [zone_of_standing (causeArrives_standing kind subject h), State.zone_setZone _ _ _ (zone_range h)]

/-! ## What every event leaves alone -/

/-- The part of a state that `State.Steady` compares. -/
structure Fixed where
  outside : Outside
  tanks : Nat → TankSettings × TankStatus × List StrapRow × Bank StrapRow 32
  points : Nat → PointSettings
  islands : Nat → IslandKept
  stations : Nat → StationKept
  zones : Nat → ZoneKept

/-- What `State.Steady` compares of a tank. -/
def Tank.fixed (k : Tank) : TankSettings × TankStatus × List StrapRow × Bank StrapRow 32 :=
  (k.settings, k.status, k.live, k.staging)

theorem Tank.fixed_of_still {k l : Tank} (h : k.still = l.still) : k.fixed = l.fixed :=
  (congrArg Tank.fixed h :)

/-- That part of a state; the memory and the count of free values are not compared. -/
def State.fixed (s : State) : Fixed :=
  ⟨{ s.outside with mem := Memory.formatted, freeCount := 0 }, fun t => (s.tank t).fixed, s.standing.points,
    s.standing.islands, s.standing.stations, fun z => (s.zone z).toZoneKept⟩

theorem steady_of_fixed {s u : State} (h : u.fixed = s.fixed) : s.Steady u := by
  obtain ⟨ho, ht, hp, hi, hn, hz⟩ := Fixed.mk.inj h
  obtain ⟨hmode, hunread, henv, hroles, hqueue, hclock, hproducts, hprobe, hlog, hskip, -, -, hpending⟩ :=
    Outside.mk.inj ho
  refine ⟨hmode, hunread, henv, hroles, hqueue, hclock, hproducts, hprobe, hlog, hskip, hpending, fun k => ?_,
    congrFun hp, congrFun hi, congrFun hn, congrFun hz⟩
  obtain ⟨hsettings, hrest⟩ := Prod.mk.inj (congrFun ht k)
  obtain ⟨hstatus, hrest⟩ := Prod.mk.inj hrest
  obtain ⟨hlive, hstaging⟩ := Prod.mk.inj hrest
  exact ⟨hsettings, hstatus, hlive, hstaging⟩

/-- What stands, with the part outside, is fixed. -/
theorem fixed_of_standing {s u : State} (ho : u.outside = s.outside) (h : u.standing = s.standing) :
    u.fixed = s.fixed := by
  have ht : (fun t => (u.tank t).fixed) = fun t => (s.tank t).fixed :=
    funext fun t => Tank.fixed_of_still (tank_still_of_standing h t)
  have hz : (fun z => (u.zone z).toZoneKept) = fun z => (s.zone z).toZoneKept :=
    funext fun z => congrArg Zone.toZoneKept (zone_of_standing h z)
  unfold State.fixed
  rw [ho, h, ht, hz]

theorem State.setTank_fixed {s : State} {t : Nat} {k : Tank} (h : k.fixed = (s.tank t).fixed) :
    (s.setTank t k).fixed = s.fixed :=
  congrArg (fun f => { s.fixed with tanks := f }) (funext fun m =>
    Bank.getD_set_rel (R := fun x y : Tank => y.fixed = x.fixed) (fun _ => rfl) h m)

theorem State.setZone_fixed {s : State} {z : Nat} {d : Zone} (h : d.toZoneKept = (s.zone z).toZoneKept) :
    (s.setZone z d).fixed = s.fixed :=
  congrArg (fun f => { s.fixed with zones := f }) (funext fun m =>
    Bank.getD_set_rel (R := fun x y : Zone => y.toZoneKept = x.toZoneKept) (fun _ => rfl) h m)

theorem causeArrives_fixed (z : Nat) (kind : CauseKind) (subject : Nat) (s : State) :
    (causeArrives z kind subject s).fixed = s.fixed := by
  cases h : (s.zone z).configured with
  | false => rw [causeArrives_unconfigured kind subject h]
  | true =>
    have e := fixed_of_standing (u := causeArrives z kind subject s)
      (s := s.setZone z ((s.zone z).taking kind subject s.now)) (by simp) (causeArrives_standing kind subject h)
    exact e.trans (State.setZone_fixed (Zone.taking_kept _ _ _ _))

/-- An event taken by a part that is ready ends in its effect, the memory alone written. -/
theorem taken_ends {s : State} {f : State → State} (h : s.Ready) (ho : (f s).mem = s.mem) :
    ∃ m : Memory, taken f s = .next { f s with mem := m, touched := [] } := by
  obtain ⟨hmode, -, hans, hfates⟩ := h
  obtain ⟨m, -, -, e⟩ := commit_ready (s := f s) s true (ho ▸ hans) (ho ▸ hfates)
  exact ⟨m, by rw [taken, if_pos hmode, commit, e]⟩

theorem takenAt_ends {count n : Nat} {s : State} {f : State → State} (hn : 1 ≤ n ∧ n ≤ count) (h : s.Ready)
    (ho : (f s).mem = s.mem) : ∃ m : Memory, takenAt count n f s = .next { f s with mem := m, touched := [] } := by
  rw [takenAt, if_pos hn]
  exact taken_ends h ho

/-- An event that ends with what `u` is, the memory aside, makes `u`. -/
theorem makes_of_ends {c : Instr} {s v u : State}
    (h : ∃ m : Memory, exec c s = .next { v with mem := m, touched := [] })
    (e : v = u) : Makes c s u := by
  obtain ⟨m, hm⟩ := h
  exact ⟨_, hm, by rw [← e]; rfl⟩

end Machine
end Sys2Proof

/-! PROOFS. How a zone's or the bay's stop may change a point, and the rate windows (O24). -/

namespace Sys2Proof

/-! ## How a stop may change a point (R70, R58) -/

/-- The states in which a point fills or waits to (R75). -/
def PointState.fills : PointState → Bool
  | .starting | .flowing | .held => true
  | _ => false

/-- A stop leaves a point's state, closes its fill, or drops its grant. -/
inductive PointState.StopsTo : PointState → PointState → Prop
  | same (a : PointState) : StopsTo a a
  | closes {a : PointState} (h : a.fills = true) : StopsTo a .closing
  | drops : StopsTo .authorized .idle

theorem PointState.StopsTo.trans {a b c : PointState} (hab : a.StopsTo b) (hbc : b.StopsTo c) : a.StopsTo c := by
  cases hbc with
  | same => exact hab
  | closes hb =>
    cases hab with
    | same => exact .closes hb
    | closes ha => exact .closes ha
    | drops => cases hb
  | drops =>
    cases hab with
    | same => exact .drops

/-- A state that fills fills still after a stop, or closes. -/
theorem PointState.StopsTo.fills_or_closing {a b : PointState} (h : a.StopsTo b)
    (ha : a.fills = true ∨ a = .closing) : b.fills = true ∨ b = .closing := by
  cases h with
  | same => exact ha
  | closes => exact .inr rfl
  | drops => simp [PointState.fills] at ha

/-- CLOSING stays so through a stop. -/
theorem PointState.StopsTo.closing {b : PointState} (h : PointState.StopsTo .closing b) : b = .closing := by
  cases h <;> rfl

namespace Machine

/-- What a stop does to a point: its flow stands, its count of exceeding windows stands or restarts. -/
structure Point.Stops (p q : Point) : Prop where
  flow : q.flow = p.flow
  exceed : q.exceed = p.exceed ∨ q.exceed = 0
  state : p.state.StopsTo q.state

theorem Point.Stops.refl (p : Point) : p.Stops p := ⟨rfl, .inl rfl, .same _⟩

theorem Point.Stops.trans {p q r : Point} (hpq : p.Stops q) (hqr : q.Stops r) : p.Stops r := by
  refine ⟨hqr.flow.trans hpq.flow, ?_, hpq.state.trans hqr.state⟩
  obtain h | h := hqr.exceed
  · rw [h]; exact hpq.exceed
  · exact .inr h

/-- A CLOSING point stays so through a stop. -/
theorem Point.Stops.closing {p q : Point} (h : p.Stops q) (hp : p.state = .closing) : q.state = .closing :=
  PointState.StopsTo.closing (hp ▸ h.state)

/-- Every point is changed only as a stop may. -/
def State.Stops (s u : State) : Prop := ∀ i, (s.point i).Stops (u.point i)

theorem State.Stops.refl (s : State) : s.Stops s := fun _ => .refl _

theorem State.Stops.trans {s u v : State} (h : s.Stops u) (h' : u.Stops v) : s.Stops v :=
  fun i => (h i).trans (h' i)

/-- What leaves the points alone keeps the relation. -/
theorem State.Stops.of_points {s u v : State} (h : s.Stops u) (hp : v.points = u.points) : s.Stops v := by
  intro i
  have e : v.point i = u.point i := congrArg (fun b : Bank Point 12 => b.getD i Point.cold) hp
  rw [e]
  exact h i

theorem State.setPoint_stops {s : State} {i : Nat} {p : Point} (h : (s.point i).Stops p) : s.Stops (s.setPoint i p) :=
  Bank.getD_set_rel Point.Stops.refl h

theorem foldl_stops {α : Type} {f : State → α → State} (h : ∀ (s : State) a, s.Stops (f s a)) (l : List α) (s : State) :
    s.Stops (l.foldl f s) := by
  induction l generalizing s with
  | nil => exact .refl s
  | cons a l ih => exact (h s a).trans (ih _)

/-! ## What leaves the points alone -/

@[simp] theorem accountSave_points (n : Nat) (c : ProductClass) (q : Nat) (s : State) :
    (accountSave n c q s).points = s.points := by
  unfold accountSave State.modAccount
  split <;> rfl

@[simp] theorem pumpReview_points (t : Nat) (s : State) : (pumpReview t s).points = s.points := by
  unfold pumpReview
  dsimp only
  repeat' split
  all_goals rfl

@[simp] theorem pumpStopped_points (t : Nat) (s : State) : (pumpStopped t s).points = s.points := by
  unfold pumpStopped
  dsimp only
  split <;> rfl

@[simp] theorem releaseSlot_points (n : Nat) (s : State) : (releaseSlot n s).points = s.points := by
  simp [releaseSlot]

@[simp] theorem settleReview_points (t : Nat) (s : State) : (settleReview t s).points = s.points := by
  unfold settleReview
  dsimp only
  split <;> rfl

@[simp] theorem stationSave_points (n : Nat) (s : State) : (stationSave n s).points = s.points := by
  unfold stationSave
  dsimp only
  split <;> rfl

@[simp] theorem enterSettling_points (n : Nat) (code : EndCode) (s : State) :
    (enterSettling n code s).points = s.points := by
  unfold enterSettling
  dsimp only
  split <;> simp

@[simp] theorem stationShutdown_points (n : Nat) (s : State) : (stationShutdown n s).points = s.points := by
  unfold stationShutdown
  split <;> simp

@[simp] theorem deliveryOverfill_points (t : Nat) (s : State) : (deliveryOverfill t s).points = s.points := by
  unfold deliveryOverfill
  dsimp only
  repeat' split
  all_goals simp

/-! ## What stops points -/

theorem raise_stops (kind : NoticeKind) (subject : SubjectKind) (number : Nat) (first second : Int) (s : State) :
    s.Stops (raise kind subject number first second s) := (State.Stops.refl s).of_points (raise_points ..)

theorem saveCore_stops (i : Nat) (s : State) : s.Stops (saveCore i s) := by
  unfold saveCore
  split
  · exact .refl s
  · dsimp only
    refine (State.setPoint_stops (p := { s.point i with savedGross := (s.point i).gross, recorded := (s.point i).net })
      ⟨rfl, .inl rfl, .same _⟩).of_points ?_
    split
    · exact (accountSave_points ..).trans rfl
    · rfl

theorem closeCore_stops {i : Nat} {s : State} (code : EndCode) (h : (s.point i).state.fills = true) :
    s.Stops (closeCore i code s) := by
  unfold closeCore
  refine State.Stops.trans (State.Stops.of_points (State.setPoint_stops ?_) (pumpReview_points _ _))
    (saveCore_stops _ _)
  exact ⟨rfl, .inr rfl, .closes h⟩

theorem evalLow_stops (t : Nat) (s : State) : s.Stops (evalLow t s) := by
  unfold evalLow
  split
  · refine foldl_stops (fun s i => ?_) _ s
    split
    next h => exact closeCore_stops .tankLow (by obtain h | h := h <;> rw [h] <;> rfl)
    next => exact .refl s
  · exact .refl s

theorem evalIfBook_stops (t : Nat) (s : State) : s.Stops (evalIfBook t s) := by
  unfold evalIfBook
  split
  · exact .refl s
  · exact evalLow_stops t s

theorem enterClosing_stops {i : Nat} {s : State} (code : EndCode) (h : (s.point i).state.fills = true) :
    s.Stops (enterClosing i code s) := (closeCore_stops code h).trans (evalIfBook_stops _ _)

theorem dropFor_stops {i : Nat} {s : State} (detail : Nat) (h : (s.point i).state = .authorized) :
    s.Stops (dropFor i detail s) := by
  refine State.Stops.of_points (u := dropGrant i s) ?_ (raise_points ..)
  have hp : (releaseSlot (s.point i).slot (s.modTank (s.point i).settings.tank (removeCommitment i))).point i =
      s.point i := congrArg (fun b : Bank Point 12 => b.getD i Point.cold) (releaseSlot_points ..)
  have hd : s.Stops (releaseSlot (s.point i).slot (s.modTank (s.point i).settings.tank (removeCommitment i))) :=
    (State.Stops.refl s).of_points (releaseSlot_points ..)
  refine hd.trans (State.setPoint_stops ⟨rfl, .inl rfl, ?_⟩)
  rw [hp, h]
  exact .drops

theorem pointShutdown_stops (i detail : Nat) (s : State) : s.Stops (pointShutdown i detail s) := by
  unfold pointShutdown
  split
  next h => exact enterClosing_stops _ (by rw [h]; rfl)
  next h => exact enterClosing_stops _ (by rw [h]; rfl)
  next h => exact enterClosing_stops _ (by rw [h]; rfl)
  next h => exact dropFor_stops _ h
  next => exact .refl s

/-- Points told to stop, then tanks and stations, stop points only. -/
theorem tellStop_stops (detail : Nat) (points tanks stations : List Nat) (s : State) :
    s.Stops (tell points tanks stations (fun i s => pointShutdown i detail s) pumpStopped stationShutdown s) :=
  ((foldl_stops (fun s i => pointShutdown_stops i detail s) points s).trans
    (foldl_stops (fun s t => (State.Stops.refl s).of_points (pumpStopped_points t s)) tanks _)).trans
    (foldl_stops (fun s n => (State.Stops.refl s).of_points (stationShutdown_points n s)) stations _)

theorem tellBayStop_stops (s : State) : s.Stops (tellBayStop s) := tellStop_stops 2 _ _ _ s

theorem tellShutdown_stops (z : Nat) (s : State) : s.Stops (tellShutdown z s) := tellStop_stops 1 _ _ _ s

theorem bayCauseWith_stops (told : Bool) (kind : CauseKind) (subject : Nat) (s : State) :
    s.Stops (bayCauseWith told kind subject s) := by
  have hbay (b : Bay) : s.Stops { s with bay := b } := (State.Stops.refl s).of_points rfl
  unfold bayCauseWith
  dsimp only
  split
  · exact hbay _
  · split
    · exact ((hbay _).trans (tellBayStop_stops _)).trans (raise_stops _ _ _ _ _ _)
    · exact (hbay _).trans (raise_stops _ _ _ _ _ _)

theorem escalate_stops (z : Nat) (s : State) : s.Stops (escalate z s) := by
  unfold escalate
  split
  · exact bayCauseWith_stops _ _ _ _
  · exact .refl s

theorem goShutdown_stops (z code subject : Nat) (s : State) : s.Stops (goShutdown z code subject s) := by
  have hzone (d : Zone) : s.Stops (s.setZone z d) := (State.Stops.refl s).of_points rfl
  exact (((hzone _).trans (tellShutdown_stops z _)).trans (raise_stops _ _ _ _ _ _)).trans (escalate_stops _ _)

/-! ## A zone's shutdown closes the fills of its points (R75, R150) -/

/-- A fold reaches what one of its steps brings about from what every step keeps, and every step then keeps. -/
theorem foldl_reaches {α : Type} {f : State → α → State} {P Q : State → Prop} {a : α} {l : List α} (ha : a ∈ l)
    (hP : ∀ s b, P s → P (f s b)) (hQ : ∀ s b, Q s → Q (f s b)) (h : ∀ s, P s → Q (f s a)) :
    ∀ s, P s → Q (l.foldl f s) := by
  have hkeep : ∀ (m : List α) s, Q s → Q (m.foldl f s) := by
    intro m
    induction m with
    | nil => exact fun s hs => hs
    | cons b m ih => exact fun s hs => ih _ (hQ s b hs)
  induction l with
  | nil => cases ha
  | cons b l ih =>
    intro s hs
    rcases List.mem_cons.mp ha with rfl | ha
    · exact hkeep l _ (h s hs)
    · exact ih ha _ (hP s b hs)

theorem closeCore_closes {i : Nat} (hi : 1 ≤ i ∧ i ≤ 12) (code : EndCode) (s : State) :
    ((closeCore i code s).point i).state = .closing := by
  refine (saveCore_stops i _ i).closing ?_
  simp [State.point, hi]

theorem pointShutdown_closes {i : Nat} (hi : 1 ≤ i ∧ i ≤ 12) (detail : Nat) {s : State}
    (h : (s.point i).state.fills = true ∨ (s.point i).state = .closing) :
    ((pointShutdown i detail s).point i).state = .closing := by
  have hclose : ((enterClosing i .shutdown s).point i).state = .closing :=
    (evalIfBook_stops _ _ i).closing (closeCore_closes hi _ s)
  unfold pointShutdown
  split
  · exact hclose
  · exact hclose
  · exact hclose
  next hs => simp [hs, PointState.fills] at h
  next =>
    obtain h | h := h
    · unfold PointState.fills at h
      split at h <;> simp_all
    · exact h

theorem mem_numbers {n i : Nat} : i ∈ numbers n ↔ 1 ≤ i ∧ i ≤ n := by
  simp only [numbers, List.mem_map, List.mem_range]
  constructor
  · rintro ⟨j, hj, rfl⟩; omega
  · rintro ⟨h1, hn⟩; exact ⟨i - 1, by omega, by omega⟩

theorem tellShutdown_closes {i z : Nat} {s : State} (hi : 1 ≤ i ∧ i ≤ 12) (hz : (s.point i).settings.zone = z)
    (h : (s.point i).state.fills = true) : ((tellShutdown z s).point i).state = .closing := by
  have hmem : i ∈ s.zonePoints z := by simp [State.zonePoints, mem_numbers, hi, hz]
  have hpoints : (((s.zonePoints z).foldl (fun s i => pointShutdown i 1 s) s).point i).state = .closing :=
    foldl_reaches (P := fun s => (s.point i).state.fills = true ∨ (s.point i).state = .closing)
      (Q := fun s => (s.point i).state = .closing) hmem
      (fun s j hs => (pointShutdown_stops j 1 s i).state.fills_or_closing hs)
      (fun s j hs => (pointShutdown_stops j 1 s i).closing hs) (fun s hs => pointShutdown_closes hi 1 hs) s (.inl h)
  exact (tellStop_stops 1 [] (s.zoneTanks z) (s.zoneStations z) _ i).closing hpoints

theorem goShutdown_closes {i z : Nat} {s : State} (code subject : Nat) (hi : 1 ≤ i ∧ i ≤ 12)
    (hz : (s.point i).settings.zone = z) (h : (s.point i).state.fills = true) :
    ((goShutdown z code subject s).point i).state = .closing := by
  refine (escalate_stops _ _ i).closing ?_
  rw [raise_point]
  exact tellShutdown_closes hi hz h

/-- A cause other than a SUSPECT kind shuts down a zone that is not so yet (R150). -/
theorem causeActs_of_running {z : Nat} {kind : CauseKind} (subject : Nat) {s : State}
    (hk : suspectKind kind = false) (hz : s.zoneState z ≠ .shutdown) :
    causeActs z kind subject s =
      goShutdown z (causeCode kind) subject (s.modZone z (enterZone kind subject s.now)) := by
  unfold causeActs
  dsimp only
  split
  next hk' => simp [hk] at hk'
  next hk' => simp [hk] at hk'
  next => rfl
  next => rfl
  next hs => exact absurd hs hz

/-! ## Rate windows (R13, R65) -/

/-- A point whose rate window has ended: its flow shown, the next window started, its exceeding windows counted. -/
def Point.windowed (p : Point) (exceed : Nat) : Point :=
  { p with flow := flowOf p.ratePulses p.k100, rateLeft := some 1, ratePulses := 0, exceed := exceed }

/-- Whether the window of a point exceeds its limit (R13). -/
abbrev Point.Exceeds (p : Point) : Prop := p.settings.maxFlow * 125 / 100 < flowOf p.ratePulses p.k100

theorem rateWindowEnds_within {i : Nat} {s : State} (hx : ¬ (s.point i).Exceeds) :
    rateWindowEnds i s = s.setPoint i ((s.point i).windowed 0) := by
  unfold rateWindowEnds
  dsimp only
  rw [flowExceeds, decide_eq_false hx]
  rfl

theorem rateWindowEnds_exceeding {i : Nat} {s : State} (hx : (s.point i).Exceeds) (hne : (s.point i).exceed ≠ 1) :
    rateWindowEnds i s = s.setPoint i ((s.point i).windowed ((s.point i).exceed + 1)) := by
  have hne' : ¬ (s.point i).exceed + 1 = 2 := by omega
  unfold rateWindowEnds
  dsimp only
  rw [flowExceeds, decide_eq_true hx, if_pos rfl, if_neg hne', if_neg hne']
  rfl

/-- The second exceeding window restarts the count and makes EXCESS_FLOW arrive (R150). -/
theorem rateWindowEnds_second {i : Nat} {s : State} (hx : (s.point i).Exceeds) (he : (s.point i).exceed = 1) :
    rateWindowEnds i s =
      causeArrives (s.point i).settings.zone .excessFlow i (s.setPoint i ((s.point i).windowed 0)) := by
  unfold rateWindowEnds
  dsimp only
  rw [flowExceeds, decide_eq_true hx, if_pos rfl, he]
  rfl

/-- RATE_WINDOW_EXPIRY at a window that has run out. -/
theorem rateWindowExpiry_ends {s : State} {i : Nat} (h : s.Ready) (hi : 1 ≤ i ∧ i ≤ 12)
    (hr : (s.point i).rateLeft = some 0) :
    ∃ m : Memory, exec (.rateWindowExpiry i) s = .next { rateWindowEnds i s with mem := m, touched := [] } := by
  obtain ⟨m, hm⟩ := takenAt_ends (f := fun s => if (s.point i).rateLeft = some 0 then rateWindowEnds i s else s) hi h
    (by rw [if_pos hr]; exact mem_of_outside (rateWindowEnds_outside i s))
  rw [if_pos hr] at hm
  exact ⟨m, hm⟩

theorem rateWindowExpiry_makes {s : State} {i : Nat} {p : Point} (h : s.Ready) (hi : 1 ≤ i ∧ i ≤ 12)
    (hr : (s.point i).rateLeft = some 0) (he : rateWindowEnds i s = s.setPoint i p) :
    Makes (.rateWindowExpiry i) s { s with points := s.points.set i p } :=
  makes_of_ends (rateWindowExpiry_ends h hi hr) he

/-- A cause other than a SUSPECT kind, at a configured zone not yet shut down: the points stop and those of the zone
that fill close (R75, R150). -/
theorem causeArrives_shutdown {z : Nat} {kind : CauseKind} (subject : Nat) {s : State}
    (hk : suspectKind kind = false) (hc : (s.zone z).configured = true) (hz : s.zoneState z ≠ .shutdown) :
    s.Stops (causeArrives z kind subject s) ∧
      ∀ i, 1 ≤ i ∧ i ≤ 12 → (s.point i).settings.zone = z → (s.point i).state.fills = true →
        ((causeArrives z kind subject s).point i).state = .closing := by
  let u := goShutdown z (causeCode kind) subject (s.modZone z (enterZone kind subject s.now))
  have hpoints : (causeArrives z kind subject s).points = u.points := by
    unfold causeArrives
    rw [if_neg (by simp [hc]), causeActs_of_running subject hk hz]
    dsimp only
    split
    · exact deliveryOverfill_points ..
    · rfl
  have hpoint : ∀ i, (causeArrives z kind subject s).point i = u.point i := fun i =>
    congrArg (fun b : Bank Point 12 => b.getD i Point.cold) hpoints
  refine ⟨State.Stops.of_points (goShutdown_stops z _ _ (s.modZone z _)) hpoints, fun i hi hiz hfills => ?_⟩
  rw [hpoint]
  exact goShutdown_closes _ _ hi hiz hfills

/-- Settles O24: a window that is not the second to exceed changes its point alone; the second makes EXCESS_FLOW arrive,
which shuts the zone down and stops its points. -/
theorem rateWindowsWatchTheFlow : Obligations.RateWindowsWatchTheFlow := by
  intro s i hready h1 h12 hleft
  have hi : 1 ≤ i ∧ i ≤ 12 := ⟨h1, h12⟩
  refine ⟨fun hx => rateWindowExpiry_makes hready hi hleft (rateWindowEnds_within hx),
    fun hx hne => rateWindowExpiry_makes hready hi hleft (rateWindowEnds_exceeding hx hne),
    fun hx he _ _ hconf hns hroom => ?_⟩
  obtain ⟨m, hm⟩ := rateWindowExpiry_ends hready hi hleft
  rw [rateWindowEnds_second hx he] at hm
  let v := s.setPoint i ((s.point i).windowed 0)
  have hv : v.point i = (s.point i).windowed 0 := State.point_setPoint _ _ _ hi
  obtain ⟨hstops, hcloses⟩ :=
    causeArrives_shutdown (s := v) (z := (s.point i).settings.zone) (kind := .excessFlow) i rfl hconf hns
  have hzone := causeArrives_zone (s := v) (z := (s.point i).settings.zone) .excessFlow i hconf
  have hfixed : (causeArrives (s.point i).settings.zone .excessFlow i v).fixed = s.fixed :=
    (causeArrives_fixed _ _ _ v).trans (fixed_of_standing rfl (State.setPoint_standing rfl))
  have hpoint := hstops i
  rw [hv] at hpoint
  refine ⟨_, hm, steady_of_fixed hfixed, ?_, ?_, hpoint.flow, ?_, fun hflowing => ?_⟩
  · exact (congrArg Zone.state hzone).trans (Zone.taking_state _ _ _ rfl)
  · obtain ⟨c, hmem, hc⟩ := Zone.mem_taking .excessFlow i s.now hroom
    exact ⟨c, hzone ▸ hmem, hc⟩
  · obtain h | h := hpoint.exceed <;> exact h
  · exact hcloses i hi (by rw [hv]; rfl) (by rw [hv]; exact congrArg PointState.fills hflowing)

end Machine
end Sys2Proof

/-! PROOFS. The gauges: samples, silence, the check of an open window (O36). -/

namespace Sys2Proof.Machine

/-! ## The probe line and the gauge: what they leave alone -/

@[simp] theorem checkWindow_outside (t : Nat) (s : State) : (checkWindow t s).outside = s.outside := by
  unfold checkWindow
  dsimp only
  repeat' split
  all_goals simp

@[simp] theorem sampleWindow_outside (t : Nat) (wasFresh : Bool) (s : State) :
    (sampleWindow t wasFresh s).outside = s.outside := by
  unfold sampleWindow
  repeat' split
  all_goals simp

@[simp] theorem abandonWindow_outside (t : Nat) (s : State) : (abandonWindow t s).outside = s.outside := by
  unfold abandonWindow
  dsimp only
  split <;> simp

@[simp] theorem goStale_outside (t detail : Nat) (s : State) : (goStale t detail s).outside = s.outside := by
  simp [goStale]

@[simp] theorem faultSample_outside (t level water : Nat) (temp : Int) (s : State) :
    (faultSample t level water temp s).outside = s.outside := by
  unfold faultSample
  dsimp only
  split <;> simp

@[simp] theorem silenceExpires_outside (t : Nat) (s : State) : (silenceExpires t s).outside = s.outside := by
  unfold silenceExpires
  dsimp only
  split <;> simp

/-- The address asked next is read off settings alone. -/
theorem probeAsked_of_fixed {s u : State} (h : u.fixed = s.fixed) : u.probeAsked = s.probeAsked := by
  obtain ⟨-, -, -, -, -, -, -, hlast, -, -, -, htanks, -, -, hstations, -⟩ := steady_of_fixed h
  have hc : ∀ t, (u.tank t).configured = (s.tank t).configured := fun t => by
    rw [Tank.configured, Tank.configured, (htanks t).2.1]
  have hp : ∀ t, (u.tank t).settings = (s.tank t).settings := fun t => (htanks t).1
  have ha : u.probeAddresses = s.probeAddresses := by simp only [State.probeAddresses, hc, hp, hstations]
  simp only [State.probeAsked, ha, hlast]

/-- The next request is told by settings alone, whatever the sample did. -/
theorem probeNext_of_fixed {s u : State} (h : u.fixed = s.fixed) :
    probeNext u = { u with probeLast := s.probeAsked } := by
  rw [probeNext, probeAsked_of_fixed h]

theorem probeNext_fixed {s u : State} (h : u.fixed = s.fixed) :
    (probeNext u).fixed = ({ s with probeLast := s.probeAsked } : State).fixed := by
  rw [probeNext_of_fixed h]
  exact congrArg (fun f : Fixed => { f with outside := { f.outside with probeLast := s.probeAsked } }) h

/-- A notice is raised alike wherever the probe line stands. -/
theorem raise_withProbeLast (kind : NoticeKind) (subject : SubjectKind) (number : Nat) (first second : Int) (s : State)
    (a : Nat) :
    raise kind subject number first second { s with probeLast := a } =
      { raise kind subject number first second s with probeLast := a } := by
  refine List.foldl_hom (fun s : State => { s with probeLast := a }) fun s p => ?_
  change (if inAudience s p (audienceOf kind) then _ else _) = _
  split <;> rfl

/-- A stock basis above the low cutoff stops no fill (R26). -/
theorem evalLow_above {t : Nat} {s : State} (h : ((s.tank t).settings.lowCutoff : Int) < (s.tank t).basis) :
    evalLow t s = s := if_neg (Int.not_le.mpr h)

/-! ## The gauge goes STALE (R23, R24, R42) -/

@[simp] theorem abandonWindow_standing (t : Nat) (s : State) : (abandonWindow t s).standing = s.standing := by
  unfold abandonWindow
  dsimp only
  split <;> simp

theorem abandonWindow_closed {t : Nat} {s : State} (h : (s.tank t).window.isOpen = false) : abandonWindow t s = s :=
  if_neg (by simp [h])

theorem abandonWindow_closes {t : Nat} (ht : 1 ≤ t ∧ t ≤ 8) (s : State) :
    ((abandonWindow t s).tank t).window.isOpen = false := by
  unfold abandonWindow
  dsimp only
  split
  · simp [ht, Window.shut]
  · simp_all

theorem goStale_standing (t detail : Nat) (s : State) :
    (goStale t detail s).standing = (s.setTank t { s.tank t with gauge := .stale }).standing := by
  simp [goStale, State.modTank]

theorem goStale_closes {t : Nat} (ht : 1 ≤ t ∧ t ≤ 8) (detail : Nat) (s : State) :
    ((goStale t detail s).tank t).window.isOpen = false := by
  simp only [goStale, raise_tank]
  exact abandonWindow_closes ht _

/-- With no window open and book net above the low cutoff, only the gauge and its notice change. -/
theorem goStale_quiet {t : Nat} (ht : 1 ≤ t ∧ t ≤ 8) (detail : Nat) {s : State}
    (hw : (s.tank t).window.isOpen = false) (hb : ((s.tank t).settings.lowCutoff : Int) < (s.tank t).book) :
    goStale t detail s =
      raise .gaugeStale .tank t detail (s.tank t).net (s.setTank t { s.tank t with gauge := .stale }) := by
  have hlow : evalLow t (s.setTank t { s.tank t with gauge := .stale }) =
      s.setTank t { s.tank t with gauge := .stale } :=
    evalLow_above (by simpa [ht, Tank.basis] using hb)
  unfold goStale State.modTank
  dsimp only
  rw [hlow, abandonWindow_closed (by simpa [ht] using hw), State.tank_setTank _ _ _ ht]

theorem goStale_fixed (t detail : Nat) (s : State) : (goStale t detail s).fixed = s.fixed :=
  (fixed_of_standing (by simp) (goStale_standing t detail s)).trans (State.setTank_fixed rfl)

/-- A gauge that goes STALE leaves the tank still but for it. -/
theorem goStale_still {t : Nat} (ht : 1 ≤ t ∧ t ≤ 8) (detail : Nat) (s : State) :
    ((goStale t detail s).tank t).still = ({ s.tank t with gauge := .stale } : Tank).still := by
  rw [tank_still_of_standing (goStale_standing t detail s) t, State.tank_setTank _ _ _ ht]

/-- A tank with a FAULT sample shown (R23). -/
def Tank.withFault (k : Tank) (level water : Nat) (temp : Int) : Tank :=
  { k with lastSample := some ⟨level, water, temp, false⟩ }

theorem faultSample_stale {t : Nat} (level water : Nat) (temp : Int) {s : State} (h : (s.tank t).gauge = .stale) :
    faultSample t level water temp s = s.setTank t ((s.tank t).withFault level water temp) := if_pos h

theorem faultSample_fresh {t : Nat} (level water : Nat) (temp : Int) {s : State} (h : (s.tank t).gauge ≠ .stale) :
    faultSample t level water temp s = goStale t 1 (s.setTank t ((s.tank t).withFault level water temp)) := if_neg h

/-- A FAULT sample shows itself, and the gauge is STALE after it (R23, R24). -/
theorem faultSample_still {t : Nat} (ht : 1 ≤ t ∧ t ≤ 8) (level water : Nat) (temp : Int) (s : State) :
    ((faultSample t level water temp s).tank t).still =
      ({ (s.tank t).withFault level water temp with gauge := .stale } : Tank).still := by
  by_cases h : (s.tank t).gauge = .stale
  · rw [faultSample_stale _ _ _ h, State.tank_setTank _ _ _ ht, ← h]
    rfl
  · rw [faultSample_fresh _ _ _ h, goStale_still ht, State.tank_setTank _ _ _ ht]

theorem faultSample_fixed (t level water : Nat) (temp : Int) (s : State) :
    (faultSample t level water temp s).fixed = s.fixed := by
  by_cases h : (s.tank t).gauge = .stale
  · rw [faultSample_stale _ _ _ h]
    exact State.setTank_fixed rfl
  · rw [faultSample_fresh _ _ _ h, goStale_fixed]
    exact State.setTank_fixed rfl

/-- A tank whose silence timer starts again (R23). -/
def Tank.silenceRestarted (k : Tank) : Tank := { k with silence := some k.settings.gaugeSilence }

theorem silenceExpires_stale {t : Nat} {s : State} (h : (s.tank t).gauge = .stale) :
    silenceExpires t s = s.setTank t (s.tank t).silenceRestarted := if_pos h

theorem silenceExpires_fresh {t : Nat} {s : State} (h : (s.tank t).gauge ≠ .stale) :
    silenceExpires t s = goStale t 2 (s.setTank t (s.tank t).silenceRestarted) := if_neg h

/-! ## The check of an open window (R17, R40) -/

/-- A tank whose window closes. -/
def Tank.shutWindow (k : Tank) : Tank := { k with window := Window.shut }

theorem Tank.shutWindow_still (k : Tank) : k.shutWindow.still = k.still := rfl

theorem Tank.shutWindow_fixed (k : Tank) : k.shutWindow.fixed = k.fixed := rfl

/-- Whether a sample's loss exceeds the allowance of the open window (R17). -/
abbrev Tank.Loses (k : Tank) : Prop := windowAllowance k.settings k.window < windowLoss k.window k.net

/-- A tank whose open window has been checked, with the count and the loss it then shows. -/
def Tank.checked (k : Tank) (count : Nat) : Tank :=
  { k with window := { k.window with count := count, lastLoss := windowLoss k.window k.net } }

theorem checkWindow_within {t : Nat} {s : State} (h : ¬ (s.tank t).Loses) :
    checkWindow t s = s.setTank t ((s.tank t).checked 0) := by
  unfold checkWindow
  dsimp only
  rw [if_neg h]
  rfl

theorem checkWindow_loses {t : Nat} {s : State} (h : (s.tank t).Loses) (hc : (s.tank t).window.count ≠ 2) :
    checkWindow t s = s.setTank t ((s.tank t).checked ((s.tank t).window.count + 1)) := by
  unfold checkWindow
  dsimp only
  rw [if_pos h, if_neg (by omega)]
  rfl

/-- The third loss in a row makes UNMETERED_LOSS arrive and closes the window. -/
theorem checkWindow_third {t : Nat} {s : State} (h : (s.tank t).Loses) (hc : (s.tank t).window.count = 2) :
    checkWindow t s =
      (causeArrives (s.tank t).settings.zone .unmeteredLoss t (s.setTank t ((s.tank t).checked 3))).modTank t
        Tank.shutWindow := by
  unfold checkWindow
  dsimp only
  rw [if_pos h, hc]
  rfl

/-- Whatever a check finds, it changes no more of the tanks than the window. -/
theorem checkWindow_still (t m : Nat) (s : State) : ((checkWindow t s).tank m).still = (s.tank m).still := by
  have hset (c : Nat) : (s.setTank t ((s.tank t).checked c)).standing = s.standing := State.setTank_standing rfl
  by_cases h : (s.tank t).Loses
  · by_cases hc : (s.tank t).window.count = 2
    · rw [checkWindow_third h hc]
      rw [tank_still_of_standing (State.modTank_standing Tank.shutWindow_still), causeArrives_tank_still,
        tank_still_of_standing (hset 3)]
    · rw [checkWindow_loses h hc]
      exact tank_still_of_standing (hset _) m
  · rw [checkWindow_within h]
    exact tank_still_of_standing (hset 0) m

theorem checkWindow_fixed (t : Nat) (s : State) : (checkWindow t s).fixed = s.fixed := by
  have hset (c : Nat) : (s.setTank t ((s.tank t).checked c)).fixed = s.fixed := State.setTank_fixed rfl
  by_cases h : (s.tank t).Loses
  · by_cases hc : (s.tank t).window.count = 2
    · rw [checkWindow_third h hc]
      rw [State.modTank, State.setTank_fixed (Tank.shutWindow_fixed _), causeArrives_fixed, hset 3]
    · rw [checkWindow_loses h hc]
      exact hset _
  · rw [checkWindow_within h]
    exact hset 0

theorem sampleWindow_still (t m : Nat) (wasFresh : Bool) (s : State) :
    ((sampleWindow t wasFresh s).tank m).still = (s.tank m).still := by
  unfold sampleWindow
  split
  · exact checkWindow_still t m s
  · split
    · exact tank_still_of_standing (openWindow_standing t s) m
    · rfl

theorem sampleWindow_fixed (t : Nat) (wasFresh : Bool) (s : State) : (sampleWindow t wasFresh s).fixed = s.fixed := by
  unfold sampleWindow
  split
  · exact checkWindow_fixed t s
  · split
    · exact fixed_of_standing (openWindow_outside t s) (openWindow_standing t s)
    · rfl

/-! ## An OK sample (R22) -/

/-- The tank with the figures of an OK sample (R22, steps 1 to 5). -/
def State.figures (s : State) (t level water : Nat) (temp : Int) : Tank :=
  gaugeFigures (s.tank t) (s.product (s.tank t).settings.product).alpha s.freeCount level water temp

/-- The state with the figures of an OK sample taken, before what follows from them (R22, steps 1 to 5). -/
def State.sampled (s : State) (t level water : Nat) (temp : Int) : State :=
  { s.setTank t (s.figures t level water temp) with
    freeCount := if (s.tank t).live = [] then s.freeCount + 1 else s.freeCount }

/-- The figures of a sample at a tank with a live strap table (R12, R22). -/
theorem State.figures_live {s : State} {t : Nat} (level water : Nat) (temp : Int) (h : (s.tank t).live ≠ []) :
    s.figures t level water temp =
      let k := s.tank t
      let factor := factorOf (s.product k.settings.product).alpha (workingTemp (sourceAfter temp))
      let gross := gaugeGrossOf k.live level water
      { k with
        temp := sourceAfter temp, factor := factor, above := aboveTable k.live level, gross := gross
        net := netOf gross factor, lastSample := some ⟨level, water, temp, true⟩, gauge := .fresh
        silence := some k.settings.gaugeSilence } := by
  unfold State.figures gaugeFigures
  rw [if_neg h, if_neg h]

/-- A live strap table leaves the free values alone. -/
theorem State.sampled_live {s : State} {t : Nat} (level water : Nat) (temp : Int) (h : (s.tank t).live ≠ []) :
    s.sampled t level water temp = s.setTank t (s.figures t level water temp) := by
  unfold State.sampled
  rw [if_neg h]
  rfl

theorem State.sampled_fixed (s : State) (t level water : Nat) (temp : Int) :
    (s.sampled t level water temp).fixed = s.fixed :=
  State.setTank_fixed (s := s) (k := s.figures t level water temp) rfl

/-- GAUGE_RESTORED where the sample ends a hold (R24). -/
def State.restored (s : State) (t : Nat) (was : GaugeState) : State :=
  if was = .stale then raise .gaugeRestored .tank t 0 0 s else s

theorem okSample_eq (t level water : Nat) (temp : Int) (s : State) :
    okSample t level water temp s =
      deliverySample t (sampleWindow t (decide ((s.tank t).gauge = .fresh))
        (evalLow t ((s.sampled t level water temp).restored t (s.tank t).gauge))) := by
  unfold okSample State.sampled
  dsimp only
  by_cases hl : (s.tank t).live = []
  · rw [if_pos hl, if_pos hl]
    rfl
  · rw [if_neg hl, if_neg hl]
    rfl

@[simp] theorem State.restored_outside (s : State) (t : Nat) (was : GaugeState) :
    (s.restored t was).outside = s.outside := by
  unfold State.restored
  split <;> simp

@[simp] theorem State.restored_standing (s : State) (t : Nat) (was : GaugeState) :
    (s.restored t was).standing = s.standing := by
  unfold State.restored
  split <;> simp

theorem okSample_mem (t level water : Nat) (temp : Int) (s : State) : (okSample t level water temp s).mem = s.mem := by
  rw [okSample_eq]
  exact mem_of_outside (s := s.sampled t level water temp) (by simp)

theorem okSample_fixed (t level water : Nat) (temp : Int) (s : State) :
    (okSample t level water temp s).fixed = s.fixed := by
  have hlow : (evalLow t ((s.sampled t level water temp).restored t (s.tank t).gauge)).fixed =
      (s.sampled t level water temp).fixed := fixed_of_standing (by simp) (by simp)
  rw [okSample_eq]
  exact (fixed_of_standing (deliverySample_outside ..) (deliverySample_standing ..)).trans
    ((sampleWindow_fixed ..).trans (hlow.trans (State.sampled_fixed ..)))

/-- After an OK sample the tank has its figures, whatever they set off. -/
theorem okSample_still {t : Nat} (ht : 1 ≤ t ∧ t ≤ 8) (level water : Nat) (temp : Int) (s : State) :
    ((okSample t level water temp s).tank t).still =
      (s.figures t level water temp).still := by
  have hs : (s.sampled t level water temp).tank t = s.figures t level water temp :=
    State.tank_setTank _ _ _ ht
  rw [okSample_eq, tank_still_of_standing (deliverySample_standing ..), sampleWindow_still,
    tank_still_of_standing (evalLow_standing ..), tank_still_of_standing (State.restored_standing ..), hs]

/-- Nothing follows from an OK sample that ends no hold, at a tank above its low cutoff, with no window open or to be
opened and no delivery. -/
theorem okSample_quiet {t : Nat} (ht : 1 ≤ t ∧ t ≤ 8) (level water : Nat) (temp : Int) {s : State}
    (hg : (s.tank t).gauge ≠ .stale) (hw : (s.tank t).window.isOpen = false)
    (hm : (s.tank t).gauge = .unknown → s.productMoves t = false) (hd : s.stationFor t = none)
    (hlow : (s.tank t).settings.lowCutoff <
      (s.figures t level water temp).net) :
    okSample t level water temp s = s.sampled t level water temp := by
  have htank : (s.sampled t level water temp).tank t = s.figures t level water temp :=
    State.tank_setTank _ _ _ ht
  have hrestored : (s.sampled t level water temp).restored t (s.tank t).gauge = s.sampled t level water temp :=
    if_neg hg
  have heval : evalLow t (s.sampled t level water temp) = s.sampled t level water temp :=
    evalLow_above (by rw [htank]; exact Int.ofNat_lt.mpr hlow)
  have hopen : ¬ ((s.sampled t level water temp).tank t).window.isOpen = true := by
    rw [htank]; exact (Bool.eq_false_iff.mp hw)
  have hmoves : ¬ (decide ((s.tank t).gauge = .fresh) = false ∧
      (s.sampled t level water temp).productMoves t = true) := by
    rintro ⟨hf, hp⟩
    have hf := of_decide_eq_false hf
    have hu : (s.tank t).gauge = .unknown := by
      cases h : (s.tank t).gauge <;> simp_all
    exact absurd ((hm hu).symm.trans hp) (by decide)
  have hdelivery : (s.sampled t level water temp).stationFor t = none := hd
  rw [okSample_eq, hrestored, heval, sampleWindow, if_neg hopen, if_neg hmoves, deliverySample, hdelivery]

/-! ## The events of a gauge -/

/-- Where a probe's sample goes: to its tank as an OK or a FAULT sample (R21). -/
theorem probeSample_ends {s : State} {a t : Nat} (h : s.Ready) (ha : s.probeTank a = some t) (level water : Nat)
    (temp : Int) (ok : Bool) :
    ∃ m : Memory, exec (.probeSample a level water temp ok) s = .next
      { probeNext (if ok = true ∧ level ≤ 30000 ∧ water ≤ 30000 then okSample t level water temp s
          else faultSample t level water temp s) with mem := m, touched := [] } := by
  have hd : deliverSample a level water temp ok s =
      if ok = true ∧ level ≤ 30000 ∧ water ≤ 30000 then okSample t level water temp s
      else faultSample t level water temp s := by rw [deliverSample, ha]
  rw [← hd]
  refine taken_ends (f := fun s => probeNext (deliverSample a level water temp ok s)) h ?_
  change (deliverSample a level water temp ok s).mem = s.mem
  rw [hd]
  split
  · exact okSample_mem ..
  · exact mem_of_outside (faultSample_outside ..)

theorem okProbeSample_ends {s : State} {a t level water : Nat} (h : s.Ready) (ha : s.probeTank a = some t)
    (hl : level ≤ 30000) (hw : water ≤ 30000) (temp : Int) :
    ∃ m : Memory, exec (.probeSample a level water temp true) s = .next
      { probeNext (okSample t level water temp s) with mem := m, touched := [] } := by
  have he := probeSample_ends h ha level water temp true
  rwa [if_pos ⟨rfl, hl, hw⟩] at he

theorem faultProbeSample_ends {s : State} {a t level water : Nat} {ok : Bool} (h : s.Ready)
    (ha : s.probeTank a = some t) (hf : ¬ (ok = true ∧ level ≤ 30000 ∧ water ≤ 30000)) (temp : Int) :
    ∃ m : Memory, exec (.probeSample a level water temp ok) s = .next
      { probeNext (faultSample t level water temp s) with mem := m, touched := [] } := by
  have he := probeSample_ends h ha level water temp ok
  rwa [if_neg hf] at he

/-- A timer of a tank that has run out is taken. -/
theorem gaugeSilenceExpiry_ends {s : State} {t : Nat} (h : s.Ready) (ht : 1 ≤ t ∧ t ≤ 8)
    (hr : (s.tank t).silence = some 0) :
    ∃ m : Memory, exec (.gaugeSilenceExpiry t) s = .next { silenceExpires t s with mem := m, touched := [] } := by
  obtain ⟨m, hm⟩ := takenAt_ends (f := fun s => if (s.tank t).silence = some 0 then silenceExpires t s else s) ht h
    (by rw [if_pos hr]; exact mem_of_outside (silenceExpires_outside t s))
  rw [if_pos hr] at hm
  exact ⟨m, hm⟩

theorem windowSettleExpiry_ends {s : State} {t : Nat} (h : s.Ready) (ht : 1 ≤ t ∧ t ≤ 8)
    (hr : (s.tank t).window.settle = some 0) :
    ∃ m : Memory, exec (.windowSettleExpiry t) s = .next
      { s.setTank t (s.tank t).shutWindow with mem := m, touched := [] } := by
  obtain ⟨m, hm⟩ := takenAt_ends (f := fun s =>
    if (s.tank t).window.settle = some 0 then s.modTank t fun k => { k with window := Window.shut } else s) ht h
    (by rw [if_pos hr]; rfl)
  rw [if_pos hr] at hm
  exact ⟨m, hm⟩

/-- A quiet OK sample at a tank with a live strap table makes its figures alone (R22). -/
theorem okProbeSample_makes {s : State} {a t level water : Nat} {temp : Int} (h : s.Ready)
    (ha : s.probeTank a = some t) (hl : level ≤ 30000) (hw : water ≤ 30000) (hlive : (s.tank t).live ≠ [])
    (hq : okSample t level water temp s = s.sampled t level water temp) :
    Makes (.probeSample a level water temp true) s
      { s with probeLast := s.probeAsked, tanks := s.tanks.set t (s.figures t level water temp) } := by
  refine makes_of_ends (okProbeSample_ends h ha hl hw temp) ?_
  rw [hq, probeNext_of_fixed (State.sampled_fixed ..), State.sampled_live _ _ _ hlive]
  rfl

/-- A notice raised on a change of one tank, and the next request made. -/
theorem probeNext_raise {s : State} {t : Nat} {k : Tank} (kind : NoticeKind) (subject : SubjectKind) (number : Nat)
    (first second : Int) (hk : k.fixed = (s.tank t).fixed) :
    probeNext (raise kind subject number first second (s.setTank t k)) =
      raise kind subject number first second { s with probeLast := s.probeAsked, tanks := s.tanks.set t k } := by
  have hfixed : (raise kind subject number first second (s.setTank t k)).fixed = s.fixed :=
    (fixed_of_standing (raise_outside ..) (raise_standing ..)).trans (State.setTank_fixed hk)
  rw [probeNext_of_fixed hfixed]
  exact (raise_withProbeLast kind subject number first second (s.setTank t k) s.probeAsked).symm

/-- A FAULT sample at a gauge that was not STALE, with no window open and book net above the low cutoff (R23). -/
theorem faultSample_quiet {t level water : Nat} {temp : Int} {s : State} (ht : 1 ≤ t ∧ t ≤ 8)
    (hg : (s.tank t).gauge ≠ .stale) (hw : (s.tank t).window.isOpen = false)
    (hb : ((s.tank t).settings.lowCutoff : Int) < (s.tank t).book) :
    faultSample t level water temp s =
      raise .gaugeStale .tank t 1 (s.tank t).net
        (s.setTank t { (s.tank t).withFault level water temp with gauge := .stale }) := by
  have htank : (s.setTank t ((s.tank t).withFault level water temp)).tank t = (s.tank t).withFault level water temp :=
    State.tank_setTank _ _ _ ht
  rw [faultSample_fresh _ _ _ hg, goStale_quiet ht 1 (by rw [htank]; exact hw) (by rw [htank]; exact hb), htank,
    State.setTank_setTank]
  rfl

/-- The silence timer run out at a gauge not STALE, with no window open and book net above the low cutoff (R23). -/
theorem silenceExpires_quiet {t : Nat} {s : State} (ht : 1 ≤ t ∧ t ≤ 8) (hg : (s.tank t).gauge ≠ .stale)
    (hw : (s.tank t).window.isOpen = false) (hb : ((s.tank t).settings.lowCutoff : Int) < (s.tank t).book) :
    silenceExpires t s =
      raise .gaugeStale .tank t 2 (s.tank t).net
        (s.setTank t { (s.tank t).silenceRestarted with gauge := .stale }) := by
  have htank : (s.setTank t (s.tank t).silenceRestarted).tank t = (s.tank t).silenceRestarted :=
    State.tank_setTank _ _ _ ht
  rw [silenceExpires_fresh hg, goStale_quiet ht 2 (by rw [htank]; exact hw) (by rw [htank]; exact hb), htank,
    State.setTank_setTank]
  rfl

/-- After a FAULT sample at a gauge that was not STALE no window is open (R42). -/
theorem faultSample_closes {t : Nat} (ht : 1 ≤ t ∧ t ≤ 8) (level water : Nat) (temp : Int) {s : State}
    (hg : (s.tank t).gauge ≠ .stale) : ((faultSample t level water temp s).tank t).window.isOpen = false := by
  rw [faultSample_fresh _ _ _ hg]
  exact goStale_closes ht 1 _

/-- A sample's event leaves alone what settings and ports make, and each tank as the sample did. -/
theorem probed_steady {c : Instr} {s x : State}
    (h : ∃ m : Memory, exec c s = .next { probeNext x with mem := m, touched := [] }) (hx : x.fixed = s.fixed) :
    ∃ u, exec c s = .next u ∧ ({ s with probeLast := s.probeAsked } : State).Steady u ∧ ∀ t, u.tank t = x.tank t := by
  obtain ⟨m, hm⟩ := h
  exact ⟨_, hm, steady_of_fixed (probeNext_fixed hx), fun _ => rfl⟩

/-- What an OK sample makes of its tank's gauge, whatever it sets off (R22). -/
theorem okSample_gauge {t : Nat} (ht : 1 ≤ t ∧ t ≤ 8) (level water : Nat) (temp : Int) (s : State) :
    let k := (okSample t level water temp s).tank t
    k.gauge = .fresh ∧ k.temp = sourceAfter temp ∧
      k.factor = factorOf (s.product (s.tank t).settings.product).alpha (clampTemp temp) ∧
      k.lastSample = some ⟨level, water, temp, true⟩ := by
  have hs := okSample_still ht level water temp s
  generalize (okSample t level water temp s).tank t = k at hs
  exact ⟨(congrArg Tank.gauge hs :), (congrArg Tank.temp hs :), (congrArg Tank.factor hs :),
    (congrArg Tank.lastSample hs :)⟩

/-- What a FAULT sample makes of its tank's gauge (R23). -/
theorem faultSample_gauge {t : Nat} (ht : 1 ≤ t ∧ t ≤ 8) (level water : Nat) (temp : Int) (s : State) :
    let k := (faultSample t level water temp s).tank t
    k.gauge = .stale ∧ k.temp = (s.tank t).temp ∧ k.factor = (s.tank t).factor ∧
      k.lastSample = some ⟨level, water, temp, false⟩ ∧ k.silence = (s.tank t).silence := by
  have hs := faultSample_still ht level water temp s
  generalize (faultSample t level water temp s).tank t = k at hs
  exact ⟨(congrArg Tank.gauge hs :), (congrArg Tank.temp hs :), (congrArg Tank.factor hs :),
    (congrArg Tank.lastSample hs :), (congrArg Tank.silence hs :)⟩

/-- The third loss in a row shuts the tank's zone down with UNMETERED_LOSS and closes the window (R40). -/
theorem checkWindow_third_zone {t : Nat} {s : State} (ht : 1 ≤ t ∧ t ≤ 8) (h : (s.tank t).Loses)
    (hc : (s.tank t).window.count = 2) :
    ((checkWindow t s).tank t).window = Window.shut ∧
      ((s.zone (s.tank t).settings.zone).configured = true → (s.zone (s.tank t).settings.zone).causes.length < 16 →
        (checkWindow t s).zoneState (s.tank t).settings.zone = .shutdown ∧
          ∃ c ∈ ((checkWindow t s).zone (s.tank t).settings.zone).causes, c.kind = .unmeteredLoss ∧ c.subject = t) := by
  rw [checkWindow_third h hc]
  refine ⟨congrArg Tank.window (State.tank_setTank _ _ _ ht), fun hconf hroom => ?_⟩
  have hzone := causeArrives_zone (s := s.setTank t ((s.tank t).checked 3)) .unmeteredLoss t hconf
  refine ⟨(congrArg Zone.state hzone).trans (Zone.taking_state _ _ _ rfl), ?_⟩
  obtain ⟨c, hmem, hfor⟩ := Zone.mem_taking .unmeteredLoss t s.now hroom
  exact ⟨c, hzone ▸ hmem, hfor⟩

/-- Settles O36: each event by its quiet case, a whole state, or by what its tank keeps through all that it sets off. -/
theorem gaugesFollowTheirSamples : Obligations.GaugesFollowTheirSamples := by
  refine ⟨fun s t hready h1 h8 => ?_, fun s t h1 h8 _ => ?_⟩
  · have ht : 1 ≤ t ∧ t ≤ 8 := ⟨h1, h8⟩
    refine ⟨fun level water temp ha hl hw hlive hg hwin hm hd hlow => ?_, fun level water temp ha => ?_,
      fun level water temp ha hg => ?_, fun level water temp ha hg => ⟨fun hwin hb => ?_, ?_⟩,
      fun hr hg hwin hb => ?_, fun hr hg => ?_, fun hr => ?_, ?_⟩
    · have hfig := State.figures_live level water temp hlive
      have hmakes := okProbeSample_makes (temp := temp) hready ha hl hw hlive
        (okSample_quiet ht level water temp hg hwin hm hd (by rw [hfig]; exact hlow))
      rw [hfig] at hmakes
      exact hmakes
    · by_cases hok : level ≤ 30000 ∧ water ≤ 30000
      · obtain ⟨hl, hw⟩ := hok
        obtain ⟨u, hu, hsteady, htank⟩ := probed_steady (okProbeSample_ends hready ha hl hw temp) (okSample_fixed ..)
        refine ⟨u, hu, hsteady, fun _ _ => ?_, fun h => by omega⟩
        rw [htank]
        exact okSample_gauge ht level water temp s
      · obtain ⟨u, hu, hsteady, htank⟩ := probed_steady
          (faultProbeSample_ends (ok := true) hready ha (fun h => hok h.2) temp) (faultSample_fixed ..)
        obtain ⟨hgauge, htemp, hfactor, -⟩ := faultSample_gauge ht level water temp s
        refine ⟨u, hu, hsteady, fun hl hw => absurd ⟨hl, hw⟩ hok, fun _ => ?_⟩
        rw [htank]
        exact ⟨hgauge, htemp, hfactor⟩
    · refine makes_of_ends (faultProbeSample_ends hready ha (by simp) temp) ?_
      rw [probeNext_of_fixed (faultSample_fixed ..), faultSample_stale _ _ _ hg]
      rfl
    · refine makes_of_ends (faultProbeSample_ends hready ha (by simp) temp) ?_
      rw [faultSample_quiet ht hg hwin hb]
      exact probeNext_raise _ _ _ _ _ rfl
    · obtain ⟨u, hu, hsteady, htank⟩ := probed_steady
        (faultProbeSample_ends (ok := false) (level := level) (water := water) hready ha (by simp) temp)
        (faultSample_fixed ..)
      obtain ⟨hgauge, -, -, hlast, hsilence⟩ := faultSample_gauge ht level water temp s
      refine ⟨u, hu, hsteady, ?_⟩
      rw [htank]
      exact ⟨hgauge, hlast, faultSample_closes ht level water temp hg, hsilence⟩
    · exact makes_of_ends (gaugeSilenceExpiry_ends hready ht hr) (silenceExpires_quiet ht hg hwin hb)
    · exact makes_of_ends (gaugeSilenceExpiry_ends hready ht hr) (silenceExpires_stale hg)
    · exact makes_of_ends (windowSettleExpiry_ends hready ht hr) rfl
    · exact makes_of_ends (taken_ends (f := probeNext) hready rfl) rfl
  · have ht : 1 ≤ t ∧ t ≤ 8 := ⟨h1, h8⟩
    refine ⟨fun h => checkWindow_within (Int.not_lt.mpr h), checkWindow_loses, fun h hc => ?_⟩
    obtain ⟨hwin, hzone⟩ := checkWindow_third_zone ht h hc
    exact ⟨hwin, fun _ _ => hzone⟩

end Sys2Proof.Machine

/-! PROOFS. Commands that end in an effect and commands that only answer; ACCOUNT SET, VACATE and ACCOUNT UNBAR (O27,
O29). -/

namespace Sys2Proof.Machine

/-! ## Commands: those that end in an effect, and those that only answer -/

@[simp] theorem sameObject_self (k : ObjKey) (r : Retained) : sameObject k r r = true := by
  cases k <;> exact decide_eq_true rfl

/-- An event that changed nothing has nothing to write (R193). -/
theorem groupKeys_self (r : Retained) : groupKeys r r [] = [] := by simp [groupKeys]

theorem commit_self {s : State} (h : s.touched = []) : commit s s = s := by
  have hkeys : groupKeys (image s) (image s) s.touched = [] := by rw [h]; exact groupKeys_self _
  have hs : ({ s with touched := [] } : State) = s := by rw [← h]
  rw [commit, commitWith, writeChanges, if_pos (.inr hkeys), hs]

/-- A command whose owner changes nothing is its reply alone. -/
theorem command_answers {s : State} {p : PortId} {code : Nat} {f : State → State × Answer} {a : Answer}
    (hr : s.Ready) (hq : s.Quiet p) (hf : judged p code f s = (s, a)) :
    command p code f s = .next (beginReply p (BitVec.ofNat 8 code) a s) := by
  obtain ⟨hmode, htouched, -, -⟩ := hr
  rw [command, if_pos hmode]
  dsimp only
  rw [drain_quiet hq, hf, commit_self htouched]

theorem judged_permitted {s : State} {p : PortId} {code : Nat} (f : State → State × Answer)
    (h : permitted s p code = true) : judged p code f s = f s := if_pos h

theorem judged_refused {s : State} {p : PortId} {code : Nat} (f : State → State × Answer)
    (h : permitted s p code = false) : judged p code f s = (s, ⟨.role, .empty⟩) := if_neg (by simp [h])

/-- A permitted command that its owner answers without effect. -/
theorem takes_answers {s : State} {p : PortId} {code : Nat} {f : State → State × Answer} {a : Answer}
    (h : s.Takes p code) (hf : f s = (s, a)) :
    command p code f s = .next (beginReply p (BitVec.ofNat 8 code) a s) :=
  command_answers h.1 h.2.1 ((judged_permitted f h.2.2).trans hf)

/-- A permitted command ends in its owner's effect, the memory written, with the reply begun. -/
theorem command_ends {s u : State} {p : PortId} {code : Nat} {f : State → State × Answer} {a : Answer}
    (h : s.Takes p code) (hf : f s = (u, a)) (hm : u.mem = s.mem) :
    ∃ m : Memory, command p code f s =
      .next (beginReply p (BitVec.ofNat 8 code) a { u with mem := m, touched := [] }) := by
  obtain ⟨⟨hmode, -, hans, hfates⟩, hquiet, hrole⟩ := h
  obtain ⟨m, -, -, e⟩ := commit_ready (s := u) s true (hm ▸ hans) (hm ▸ hfates)
  refine ⟨m, ?_⟩
  rw [command, if_pos hmode]
  dsimp only
  rw [drain_quiet hquiet, judged_permitted f hrole, hf, commit, e]

theorem beginReply_told (s : State) (p : PortId) (code : Nat) (a : Answer) :
    Told (beginReply p (BitVec.ofNat 8 code) a s) p code a := by
  simp [Told, beginReply, State.modPort]

/-! ## Accounts by number -/

@[simp] theorem insertNat_insertNat {α : Type} (l : List (Nat × α)) (k : Nat) (x y : α) :
    insertNat (insertNat l k x) k y = insertNat l k y := by
  induction l with
  | nil => simp [insertNat]
  | cons e l ih =>
    obtain ⟨j, b⟩ := e
    by_cases hlt : k < j
    · simp [insertNat, hlt]
    · by_cases heq : k = j
      · simp [insertNat, heq]
      · simp [insertNat, hlt, heq, ih]

@[simp] theorem State.setAccount_setAccount (s : State) (n : Nat) (x y : Account) :
    (s.setAccount n x).setAccount n y = s.setAccount n y := by simp [State.setAccount]

theorem State.modAccount_held {s : State} {n : Nat} {a : Account} (f : Account → Account)
    (h : s.account? n = some a) : s.modAccount n f = s.setAccount n (f a) := by rw [State.modAccount, h]

@[simp] theorem lookupNat_removeNat_same {α : Type} (l : List (Nat × α)) (k : Nat) :
    lookupNat (removeNat l k) k = none := by
  simp [lookupNat, removeNat, List.find?_eq_none]

/-- A command on an account that is not VACANT reaches it. -/
theorem atAccount_held {s : State} {a : Nat} {c : Account} (f : Account → State → State × Answer) (ha : a ≤ 511)
    (h : s.account? a = some c) : atAccount a f s = f c s := by
  rw [atAccount, h]
  exact if_neg (Nat.not_lt.mpr ha)

theorem atAccount_unknown {s : State} {a : Nat} (f : Account → State → State × Answer)
    (h : s.account? a = none ∨ 511 < a) : atAccount a f s = (s, ⟨.unknown, .empty⟩) := by
  unfold atAccount
  split
  · rfl
  next c hc =>
    obtain h | h := h
    · rw [hc] at h; cases h
    · exact if_pos h

/-! ## ACCOUNT SET (R103, R104) -/

theorem tagTakenBy_false {s : State} {a : Nat} {tag : BitVec 64}
    (h : ∀ e ∈ s.accounts, e.1 ≠ a → e.2.state ≠ .damaged → e.2.tag ≠ tag) : tagTakenBy s a tag = false := by
  refine List.any_eq_false.mpr fun e he hall => ?_
  obtain ⟨⟨hnumber, htag⟩, hstate⟩ : (e.1 ≠ a ∧ e.2.tag = tag) ∧ e.2.state ≠ .damaged := by simpa using hall
  exact h e he hnumber hstate htag

/-- Arguments in range, for an account that is not DAMAGED, reach the checks of R103 from step 4 on. -/
theorem answerAccountSet_inRange {s : State} {a : Nat} {x : AccountArgs} {cls : AccountClass} {source : HourSource}
    (ha : a ≤ 511) (hd : ∀ c, s.account? a = some c → c.state ≠ .damaged)
    (hcls : accountClassOfCode x.cls = some cls) (hsource : hourSourceOfCode x.hourSource = some source)
    (hok : accountArgsOk (s.account? a) x = true) :
    answerAccountSet a x s = accountSetTo a (s.account? a) cls source x s := by
  have hstate : ¬ ((s.account? a).map fun c => c.state) = some .damaged := by
    intro h
    obtain ⟨c, hc, hdamaged⟩ := Option.map_eq_some_iff.mp h
    exact hd c hc hdamaged
  rw [answerAccountSet, if_neg (Nat.not_lt.mpr ha)]
  dsimp only
  rw [if_neg hstate, if_neg (by simp [hok]), hcls, hsource]

theorem changed_eq (c : Account) (cls : AccountClass) (source : HourSource) (x : AccountArgs) :
    changed c cls source x =
      { c with
        tag := x.tag, cls := cls, capacity := x.capacity, hourSource := source
        hoursRequired := x.hoursRequired, rollover := x.rollover, band := x.band, limp := x.limp
        meter := if x.replaced then x.meter else c.meter
        lastTime := if x.replaced then none else c.lastTime } := by
  unfold changed
  cases x.replaced <;> rfl

/-- A configuration that keeps tag and class, or comes while nothing engages the account, and that does not cross into
or out of SERVICE, is taken (R103 steps 5 and 6). -/
theorem accountSetTo_held {s : State} {a : Nat} {c : Account} {cls : AccountClass} (source : HourSource)
    {x : AccountArgs} (htag : tagTakenBy s a x.tag = false)
    (hengaged : c.tag = x.tag ∧ c.cls = cls ∨ s.engaged a = false)
    (hservice : c.cls = cls ∨ c.cls ≠ .service ∧ cls ≠ .service) :
    accountSetTo a (some c) cls source x s = okay (s.setAccount a (changed c cls source x)) := by
  have hbusy : ¬ ((c.tag ≠ x.tag ∨ c.cls ≠ cls) ∧ s.engaged a = true) := by
    rintro ⟨hdiffers, he⟩
    obtain ⟨hsame, hcls⟩ | hfree := hengaged
    · exact hdiffers.elim (· hsame) (· hcls)
    · rw [hfree] at he; cases he
  have hcross : ¬ (c.cls ≠ cls ∧ (c.cls = .service ∨ cls = .service)) := by
    rintro ⟨hne, hone⟩
    obtain heq | ⟨hc, hx⟩ := hservice
    · exact hne heq
    · exact hone.elim hc hx
  rw [accountSetTo, if_neg (by simp [htag]), if_neg hbusy, if_neg hcross]

/-! ## VACATE (R120) -/

/-- The state with an account VACANT (R101). -/
def State.vacated (s : State) (a : Nat) : State := { s with accounts := removeNat s.accounts a }

theorem State.vacated_account? (s : State) (a : Nat) : (s.vacated a).account? a = none := lookupNat_removeNat_same _ _

/-- No tag leads to a VACANT account (R102). -/
theorem State.vacated_findTag? {s : State} {a b : Nat} {tag : BitVec 64} {d : Account}
    (h : (s.vacated a).findTag? tag = some (b, d)) : b ≠ a := by
  have hmem : (b, d) ∈ removeNat s.accounts a := List.mem_of_find?_eq_some h
  simpa using (List.mem_filter.mp hmem).2

/-- The four answers of VACATE, by the account's state and what engages it. -/
theorem answerVacate_held {s : State} {a : Nat} {c : Account} (ha : a ≤ 511) (h : s.account? a = some c) :
    answerVacate a s =
      if c.state = .damaged then okay (s.vacated a)
      else if s.engaged a then refuse .busy s
      else if c.cls = .service ∧ 0 < c.carried.getD 0 then refuse .state s
      else okay (s.vacated a) := by
  rw [answerVacate, atAccount_held _ ha h]
  rfl

theorem answerVacate_leaves {s : State} {a : Nat} {c : Account} (ha : a ≤ 511) (h : s.account? a = some c)
    (hfree : c.state = .damaged ∨ s.engaged a = false ∧ (c.cls = .service → c.carried.getD 0 = 0)) :
    answerVacate a s = okay (s.vacated a) := by
  rw [answerVacate_held ha h]
  obtain hd | ⟨he, hempty⟩ := hfree
  · rw [if_pos hd]
  · have hnoFuel : ¬ (c.cls = .service ∧ 0 < c.carried.getD 0) := fun ⟨hs, hf⟩ => by have := hempty hs; omega
    rw [if_neg (by simp [he] : ¬ s.engaged a = true), if_neg hnoFuel, ite_self]

/-- Settles O27: ACCOUNT SET by its checks in order, VACATE by the four answers of R120. -/
theorem accountsAreSetAndVacated : Obligations.AccountsAreSetAndVacated := by
  refine ⟨fun s p a x cls source htakes ha hcls hsource hok hfree => ?_, fun s p a c htakes ha hc => ?_⟩
  · have htag := tagTakenBy_false hfree
    refine ⟨fun hnone => command_does htakes ?_ rfl, fun c hc hd hengaged hservice => command_does htakes ?_ rfl⟩
    · rw [answerAccountSet_inRange ha (fun c hc => by rw [hnone] at hc; cases hc) hcls hsource hok, hnone,
        accountSetTo, if_neg (by simp [htag])]
      rfl
    · have hnotDamaged : ∀ d, s.account? a = some d → d.state ≠ .damaged := fun d hd' => by
        rw [hc] at hd'; cases hd'; exact hd
      rw [answerAccountSet_inRange ha hnotDamaged hcls hsource hok, hc,
        accountSetTo_held source htag hengaged hservice, changed_eq]
      rfl
  · refine ⟨fun hfree => ⟨command_does htakes (answerVacate_leaves ha hc hfree) rfl, State.vacated_account? s a,
      fun tag b d => State.vacated_findTag?⟩, fun hd he => takes_answers htakes ?_,
      fun hd he hs hf => takes_answers htakes ?_⟩
    · rw [answerVacate_held ha hc, if_neg hd, if_pos he]; rfl
    · rw [answerVacate_held ha hc, if_neg hd, if_neg (by simp [he]), if_pos ⟨hs, hf⟩]; rfl

/-! ## UNBAR (R119) -/

theorem permitted_unbar (s : State) (p : PortId) : permitted s p 0x2A = (s.rolesOf p).dispatch := by
  change meets (s.rolesOf p) { dispatch := true } = _
  simp [meets]

/-- Settles O29, by the role and the account's state. -/
theorem unbarReturnsTheAccount : Obligations.UnbarReturnsTheAccount := by
  intro s p a hready hquiet
  rw [← permitted_unbar s p]
  refine ⟨fun hrole => command_answers hready hquiet (judged_refused _ hrole), fun hrole => ⟨fun hunknown => ?_, ?_⟩⟩
  · exact takes_answers ⟨hready, hquiet, hrole⟩ (atAccount_unknown _ hunknown)
  · intro c ha hc
    have htakes : s.Takes p 0x2A := ⟨hready, hquiet, hrole⟩
    refine ⟨fun hs => command_does htakes (a := ⟨.ok, .empty⟩) ?_ rfl, fun hs => takes_answers htakes ?_,
      fun hs => takes_answers htakes ?_⟩ <;>
      · rw [answerAccountUnbar, atAccount_held _ ha hc, hs]
        rfl

end Sys2Proof.Machine

/-! PROOFS. What writes one account beside the notices it raises, and the service entries (O30). -/

namespace Sys2Proof.Machine

/-! ## Up to the ports: what the account operations do beside the notices they raise -/

/-- A state with its ports left out. Notices are offered to ports and change nothing else (R183). -/
def State.portless (s : State) : State := { s with ports := State.reset.ports }

@[simp] theorem raise_portless (kind : NoticeKind) (subject : SubjectKind) (number : Nat) (first second : Int)
    (s : State) : (raise kind subject number first second s).portless = s.portless := by
  rw [raise_eq]
  rfl

/-- `u` is `s` with account `n` written as `a`, whatever notices were raised beside it. -/
def State.WritesAccount (s : State) (n : Nat) (a : Account) (u : State) : Prop :=
  u.portless = (s.setAccount n a).portless

section
variable {s u : State} {n : Nat} {a : Account}

theorem State.WritesAccount.account? (h : s.WritesAccount n a u) : u.account? n = some a :=
  (congrArg (fun v : State => v.account? n) h :).trans (State.account?_setAccount s n a)

theorem State.WritesAccount.account?_ne (h : s.WritesAccount n a u) {m : Nat} (hm : m ≠ n) :
    u.account? m = s.account? m :=
  (congrArg (fun v : State => v.account? m) h :).trans (State.account?_setAccount_ne s n m a hm)

theorem State.WritesAccount.log (h : s.WritesAccount n a u) : u.log = s.log := (congrArg State.log h :)
theorem State.WritesAccount.clock (h : s.WritesAccount n a u) : u.clock = s.clock := (congrArg State.clock h :)
theorem State.WritesAccount.points (h : s.WritesAccount n a u) : u.points = s.points := (congrArg State.points h :)
theorem State.WritesAccount.tanks (h : s.WritesAccount n a u) : u.tanks = s.tanks := (congrArg State.tanks h :)
theorem State.WritesAccount.outside (h : s.WritesAccount n a u) : u.outside = s.outside := (congrArg State.outside h :)
theorem State.WritesAccount.standing (h : s.WritesAccount n a u) : u.standing = s.standing :=
  (congrArg State.standing h :)
theorem State.WritesAccount.mem (h : s.WritesAccount n a u) : u.mem = s.mem := (congrArg State.mem h :)

/-- The write leaves everything but accounts and ports alone. -/
theorem State.WritesAccount.apart (h : s.WritesAccount n a u) :
    ({ u with accounts := s.accounts, ports := s.ports } : State).apart = s.apart :=
  (congrArg (fun v : State => ({ v with accounts := s.accounts, ports := s.ports } : State).apart) h :)

/-- The account written once more. -/
theorem State.WritesAccount.trans {v : State} {b : Account} (h : s.WritesAccount n a u) (h' : u.WritesAccount n b v) :
    s.WritesAccount n b v := by
  have hu : (u.setAccount n b).portless = ((s.setAccount n a).setAccount n b).portless :=
    congrArg (fun v : State => v.setAccount n b) h
  rw [State.setAccount_setAccount] at hu
  exact Eq.trans h' hu

end

/-! ## Service entries (R110) -/

/-- An account whose service entries have the states their hours call for (R110). -/
def evaluated (a : Account) : Account :=
  { a with entries := a.entries.map fun e => { e with state := serviceStateFor a.life a.grace e } }

@[simp] theorem raiseService_portless (n life : Nat) (e : ServiceEntry) (after : ServiceState) (s : State) :
    (raiseService n life e after s).portless = s.portless := by
  unfold raiseService
  split <;> simp

/-- An entry whose state does not rise raises nothing (R110). -/
theorem raiseService_notRising {e : ServiceEntry} {after : ServiceState}
    (h : serviceStateCode after ≤ serviceStateCode e.state) (n life : Nat) (s : State) :
    raiseService n life e after s = s := by
  unfold raiseService
  split
  next hs => simp [hs, serviceStateCode] at h
  next hs => simp [hs, serviceStateCode] at h
  next hs => simp [hs, serviceStateCode] at h
  next => rfl

theorem raiseService_due {e : ServiceEntry} (h : e.state = .ok) (n life : Nat) (s : State) :
    raiseService n life e .due s = raise .serviceDue .account n (classCode e.cls) ((life - e.last : Nat) : Int) s := by
  unfold raiseService
  simp only [h]

theorem raiseService_overdue {e : ServiceEntry} (h : e.state ≠ .overdue) (n life : Nat) (s : State) :
    raiseService n life e .overdue s =
      raise .serviceOverdue .account n (classCode e.cls) ((life - e.last : Nat) : Int) s := by
  unfold raiseService
  cases hs : e.state with
  | ok => rfl
  | due => rfl
  | overdue => exact absurd hs h

/-- An evaluation writes the evaluated account and then raises what each rise calls for (R110). -/
theorem evaluateServices_held {s : State} {n : Nat} {a : Account} (h : s.account? n = some a) :
    evaluateServices n s =
      a.entries.foldl (fun s e => raiseService n a.life e (serviceStateFor a.life a.grace e) s)
        (s.setAccount n (evaluated a)) := by
  rw [evaluateServices, h]
  rfl

theorem evaluateServices_writes {s : State} {n : Nat} {a : Account} (h : s.account? n = some a) :
    s.WritesAccount n (evaluated a) (evaluateServices n s) := by
  rw [evaluateServices_held h]
  exact foldl_keeps (fun s e => raiseService_portless ..) _ _

/-- An evaluation of the account just written. -/
theorem evaluateServices_setAccount (s : State) (n : Nat) (a : Account) :
    s.WritesAccount n (evaluated a) (evaluateServices n (s.setAccount n a)) := by
  have h := evaluateServices_writes (State.account?_setAccount s n a)
  rwa [State.WritesAccount, State.setAccount_setAccount] at h

/-- An action that moves nothing at any entry of a list moves nothing over the list. -/
theorem foldl_unmoved {α : Type} {f : State → α → State} {l : List α} (h : ∀ a ∈ l, ∀ s, f s a = s) (s : State) :
    l.foldl f s = s := by
  induction l with
  | nil => rfl
  | cons a l ih =>
    rw [List.foldl_cons, h a List.mem_cons_self]
    exact ih fun b hb => h b (List.mem_cons_of_mem a hb)

/-- With no state rising, an evaluation raises nothing. -/
theorem evaluateServices_quiet {s : State} {n : Nat} {a : Account} (h : s.account? n = some a)
    (hq : ∀ e ∈ a.entries, serviceStateCode (serviceStateFor a.life a.grace e) ≤ serviceStateCode e.state) :
    evaluateServices n s = s.setAccount n (evaluated a) := by
  rw [evaluateServices_held h]
  exact foldl_unmoved (fun e he s => raiseService_notRising (hq e he) n a.life s) _

theorem evaluateServices_single {s : State} {n : Nat} {a : Account} {e : ServiceEntry} (h : s.account? n = some a)
    (he : a.entries = [e]) :
    evaluateServices n s =
      raiseService n a.life e (serviceStateFor a.life a.grace e) (s.setAccount n (evaluated a)) := by
  rw [evaluateServices_held h, he]
  rfl

/-! ## SET SERVICE (R112) -/

theorem noRepeats_of_nodup {l : List Nat} (h : l.Nodup) : noRepeats l = true := by
  induction l with
  | nil => rfl
  | cons x l ih =>
    obtain ⟨hx, hl⟩ := List.nodup_cons.mp h
    simp [noRepeats, hx, ih hl]

theorem serviceArgOk_iff (life : Nat) (e : ServiceArgs) :
    serviceArgOk life e = true ↔
      (classOfCode e.cls).isSome = true ∧ (10 ≤ e.interval ∧ e.interval ≤ 1000000) ∧
        ∀ n, e.since = some n → n ≤ life := by
  unfold serviceArgOk within
  cases e.since <;> simp [and_assoc]

theorem newEntry_cls {c : Account} {e : ServiceArgs} (h : (classOfCode e.cls).isSome = true) :
    classOfCode e.cls = some (newEntry c e).cls := by
  obtain ⟨k, hk⟩ := Option.isSome_iff_exists.mp h
  simp [newEntry, hk]

theorem newEntry_last {c : Account} {e : ServiceArgs} {n : Nat} (h : e.since = some n) :
    (newEntry c e).last = c.life - n := by
  simp only [newEntry, h]

/-- An account as SET SERVICE leaves it (R112). -/
def withServices (c : Account) (grace : Nat) (l : List ServiceArgs) : Account :=
  evaluated { c with grace := grace, entries := l.map (newEntry c) }

theorem withServices_entries (c : Account) (grace : Nat) (l : List ServiceArgs) :
    (withServices c grace l).entries =
      l.map fun e => { newEntry c e with state := serviceStateFor c.life grace (newEntry c e) } :=
  List.map_map

/-- Each entry of SET SERVICE as its arguments give it, in the state its hours call for (R112). -/
theorem withServices_entry {c : Account} {grace k : Nat} {l : List ServiceArgs} {e : ServiceArgs}
    {f : ServiceEntry} (he : l[k]? = some e) (hf : (withServices c grace l).entries[k]? = some f)
    (hcls : (classOfCode e.cls).isSome = true) :
    classOfCode e.cls = some f.cls ∧ f.interval = e.interval ∧ (∀ n, e.since = some n → f.last = c.life - n) ∧
      f.state = serviceStateFor c.life grace f := by
  rw [withServices_entries, List.getElem?_map, he] at hf
  cases hf
  exact ⟨newEntry_cls (c := c) hcls, rfl, fun n hn => newEntry_last hn, rfl⟩

theorem answerSetService_takes {s : State} {a grace : Nat} {c : Account} {l : List ServiceArgs} (ha : a ≤ 511)
    (hc : s.account? a = some c) (hd : c.state ≠ .damaged) (hlength : l.length ≤ 6) (hgrace : grace ≤ 100000)
    (hargs : ∀ e ∈ l, serviceArgOk c.life e = true) (hclasses : (l.map fun e => e.cls).Nodup) :
    ∃ u, answerSetService a grace l s =
        (u, ⟨.ok, .serviceStates ((withServices c grace l).entries.map fun e => e.state)⟩) ∧
      s.WritesAccount a (withServices c grace l) u := by
  have hrange : ¬ (6 < l.length ∨ within 0 100000 grace = false ∨ (l.all (serviceArgOk c.life)) = false ∨
      noRepeats (l.map fun e => e.cls) = false) := by
    simp [noRepeats_of_nodup hclasses, within, hgrace, hlength]
    exact hargs
  have hu := evaluateServices_setAccount s a { c with grace := grace, entries := l.map (newEntry c) }
  refine ⟨_, ?_, hu⟩
  rw [answerSetService, atAccount_held _ ha hc, if_neg hd, if_neg hrange]
  dsimp only
  rw [entryStates, hu.account?]
  rfl

/-! ## SERVICE DONE (R113) -/

/-- An account whose service of a class has just been done (R113). -/
def serviced (c : Account) (k : ProductClass) : Account :=
  evaluated { c with entries := c.entries.map fun o => if o.cls = k then { o with last := c.life } else o }

theorem serviced_eq (c : Account) (k : ProductClass) :
    serviced c k =
      { c with
        entries := c.entries.map fun o =>
          let o : ServiceEntry := if o.cls = k then { o with last := c.life } else o
          { o with state := serviceStateFor c.life c.grace o } } :=
  congrArg (fun l => { c with entries := l }) List.map_map

/-- The record of a service done on an entry (R113). -/
def serviceBody (p : PortId) (a : Nat) (c : Account) (e : ServiceEntry) : RecordBody :=
  .service { account := a, cls := e.cls, life := c.life, since := c.life - e.last, before := e.state, port := p }

/-- SERVICE DONE on an entry, with the log open and a slot free: the account evaluated, then the record (R113). -/
theorem answerServiceDone_takes {s : State} {p : PortId} {a code : Nat} {c : Account} {k : ProductClass}
    {e : ServiceEntry} (ha : a ≤ 511) (hc : s.account? a = some c) (hd : c.state ≠ .damaged)
    (hk : classOfCode code = some k) (he : c.entries.find? (fun o => o.cls == k) = some e)
    (hfault : s.memoryFault = false) (hfree : 0 < s.log.free) :
    ∃ v, s.WritesAccount a (serviced c e.cls) v ∧
      answerServiceDone p a code s =
        (writeDirect (serviceBody p a c e) v, ⟨.ok, .ticket s.log.ticket⟩) := by
  have hv := evaluateServices_setAccount s a
    { c with entries := c.entries.map fun o => if o.cls = e.cls then { o with last := c.life } else o }
  refine ⟨_, hv, ?_⟩
  have hentry : (classOfCode code).bind (fun k => c.entries.find? fun e => e.cls == k) = some e := by
    rw [hk]; exact he
  rw [answerServiceDone, atAccount_held _ ha hc, if_neg hd, hentry]
  dsimp only
  rw [if_neg (by simp [hfault]), if_neg (by omega), serviceDone]
  dsimp only [okWith]
  rw [hv.log]
  rfl

/-- A record written directly takes the lowest free slot and the next ticket (R166, R167). -/
theorem writeDirect_held (body : RecordBody) (v : State) :
    (writeDirect body v).log.held =
      v.log.held ++ [⟨v.log.lowest, ⟨v.log.ticket, v.now, !v.clock.set, false, body⟩⟩] := judgeSpace_held _

@[simp] theorem writeDirect_account? (body : RecordBody) (v : State) (n : Nat) :
    (writeDirect body v).account? n = v.account? n := judgeSpace_account? _ _

/-- A record written directly after an account leaves everything but accounts, ports and log alone. -/
theorem State.WritesAccount.writeDirect_apart {s v : State} {n : Nat} {a : Account} (h : s.WritesAccount n a v)
    (body : RecordBody) :
    ({ writeDirect body v with accounts := s.accounts, ports := s.ports, log := s.log } : State).apart = s.apart := by
  refine Eq.trans ?_ (congrArg (fun v : State =>
    ({ v with accounts := s.accounts, ports := s.ports, log := s.log } : State).apart) h :)
  unfold writeDirect judgeSpace
  split
  · dsimp only
    rw [raise_eq]
    rfl
  · split <;> rfl

/-- Settles O30: the evaluation by its notices one at a time, the two commands by the account they evaluate. -/
theorem servicesAreSetAndDone : Obligations.ServicesAreSetAndDone := by
  refine ⟨fun s n a hn => ?_, fun s p a c ha hc hd => ⟨fun grace l htakes hlength hgrace hargs hclasses => ?_,
    fun code k e htakes hk he hfault hfree => ?_⟩⟩
  · have hw := evaluateServices_writes hn
    refine ⟨congrArg (fun u : State => { u with ports := s.ports }) hw, hw.account?, fun m hm => hw.account?_ne hm,
      fun hq => (congrArg State.ports (evaluateServices_quiet hn hq)).trans rfl, fun e he => ⟨fun hok hdue => ?_,
      fun hnot hover => ?_⟩⟩
    · have hdue : serviceStateFor a.life a.grace e = .due := hdue
      refine (evaluateServices_single hn he).trans ?_
      rw [hdue, raiseService_due hok]
      rfl
    · have hover : serviceStateFor a.life a.grace e = .overdue := hover
      refine (evaluateServices_single hn he).trans ?_
      rw [hover, raiseService_overdue hnot]
      rfl
  · have hok : ∀ e ∈ l, serviceArgOk c.life e = true := fun e he => by
      obtain ⟨hcls, hlow, hhigh, hsince⟩ := hargs e he
      exact (serviceArgOk_iff _ _).mpr ⟨hcls, ⟨hlow, hhigh⟩, hsince⟩
    obtain ⟨u, hu, hw⟩ := answerSetService_takes ha hc hd hlength hgrace hok hclasses
    obtain ⟨m, hm⟩ := command_ends htakes hu hw.mem
    refine ⟨_, withServices c grace l, hm, hw.account?, beginReply_told .., rfl, by simp [withServices_entries],
      fun k e f he hf => ?_, hw.apart⟩
    exact withServices_entry he hf (hargs e (List.mem_of_getElem? he)).1
  · obtain ⟨v, hw, hanswer⟩ := answerServiceDone_takes (p := p) ha hc hd hk he hfault hfree
    have hcls : e.cls = k := by simpa using List.find?_some he
    rw [hcls] at hw
    obtain ⟨m, hm⟩ := command_ends htakes hanswer ((mem_of_outside (writeDirect_outside _ _)).trans hw.mem)
    refine ⟨_, hm, beginReply_told .., ?_, ?_, hw.writeDirect_apart _⟩
    · rw [← serviced_eq]
      exact (writeDirect_account? ..).trans hw.account?
    · refine (writeDirect_held ..).trans ?_
      rw [State.now, hw.log, hw.clock, serviceBody, hcls]
      rfl

end Sys2Proof.Machine

/-! PROOFS. Hour readings and transfers (O31, O32). -/

namespace Sys2Proof.Machine

/-! ## Readings (R105, R106) and burn rates (R109) -/

/-- An account that has taken a reading with delta `d`, its services evaluated (R105, R110). -/
def readAs (a : Account) (h d : Nat) (clock : Clock) : Account :=
  evaluated { a with
    meter := h, life := sat32 (a.life + d), lastTime := if clock.set then some clock.time else none }

theorem takeReading_accepted {s : State} {n h d : Nat} {a : Account}
    (hj : judgeReading s.clock a.meter a.rollover a.lastTime h = .accepted d) :
    ∃ u, takeReading n a h s = (u, .accepted d) ∧ s.WritesAccount n (readAs a h d s.clock) u := by
  refine ⟨_, ?_, evaluateServices_setAccount s n _⟩
  rw [takeReading, hj]
  rfl

theorem takeReading_refused {s : State} {n h : Nat} {a : Account} {r : HoursRefusal}
    (hj : judgeReading s.clock a.meter a.rollover a.lastTime h = .refused r) :
    takeReading n a h s = (raise .hoursRefused .account n (refusalCode r) h s, .refused r) := by
  rw [takeReading, hj]

/-- An account whose burn interval has closed over `d` hours (R109). -/
def burnClosed (a : Account) (d : Nat) : Account := { a with lastRate := some (burnRate a.pending d), pending := 0 }

theorem closeBurn_writes {s : State} {n : Nat} {a : Account} (d : Nat) (h : s.account? n = some a) :
    s.WritesAccount n (burnClosed a d) (closeBurn n d s) := by
  rw [closeBurn, h]
  dsimp only
  split
  · exact raise_portless ..
  · rfl

/-! ## ENTER HOURS (R107) -/

/-- ENTER HOURS on an account with no visit is its reading. -/
theorem answerEnterHours_held {s : State} {a h : Nat} {c : Account} (ha : a ≤ 511) (hc : s.account? a = some c)
    (hd : c.state ≠ .damaged) (hv : s.visitOf a = none) :
    answerEnterHours a h s =
      match (takeReading a c h s).2 with
      | .accepted d =>
        okWith (.hours (.accepted d))
          ((takeReading a c h s).1.modAccount a fun c => { c with pending := 0, lastRate := none })
      | .refused r => okWith (.hours (.refused r)) (takeReading a c h s).1 := by
  rw [answerEnterHours, atAccount_held _ ha hc, if_neg hd, if_neg (by simp [hv])]
  dsimp only
  cases (takeReading a c h s).2 <;> rfl

/-- Settles O31, by the two outcomes of the reading. -/
theorem enteredHoursAreJudged : Obligations.EnteredHoursAreJudged := by
  intro s p a h c htakes ha hc hd hv
  have hanswer := answerEnterHours_held (h := h) ha hc hd hv
  refine ⟨fun d hj => ?_, fun r hj => ?_⟩
  · obtain ⟨u, hu, hw⟩ := takeReading_accepted (n := a) hj
    have hend := hw.trans (v := u.setAccount a { readAs c h d s.clock with pending := 0, lastRate := none }) rfl
    rw [hu] at hanswer
    dsimp only at hanswer
    rw [State.modAccount_held _ hw.account?] at hanswer
    obtain ⟨m, hm⟩ := command_ends htakes hanswer hend.mem
    exact ⟨_, hm, beginReply_told .., hend.account?, fun b hb => hend.account?_ne hb, hend.apart⟩
  · rw [takeReading_refused hj] at hanswer
    exact command_does htakes hanswer (raise_mem ..)

/-! ## FIELD TRANSFER (R116, R117) -/

/-- The service account after a quantity has left its carried balance (R117, step 1). -/
def fuelSent (a : Account) (q : Nat) : Account := { a with carried := some (a.carried.getD 0 - q) }

/-- The machine account after a quantity has come to it (R117, step 2). -/
def fuelGot (b : Account) (q : Nat) : Account :=
  { b with fuelTotal := sat32 (b.fuelTotal + q), pending := sat32 (b.pending + q) }

/-- The state with a quantity moved between two accounts. -/
def State.fuelMoved (s : State) (sv x q : Nat) (a b : Account) : State :=
  (s.setAccount sv (fuelSent a q)).setAccount x (fuelGot b q)

section
variable {s : State} {sv x q : Nat} {a b : Account}

theorem moveFuel_held (hne : sv ≠ x) (ha : s.account? sv = some a) (hb : s.account? x = some b) :
    moveFuel sv x q s = s.fuelMoved sv x q a b := by
  have hb' : (s.setAccount sv (fuelSent a q)).account? x = some b := by
    rw [State.account?_setAccount_ne _ _ _ _ hne.symm, hb]
  rw [moveFuel, State.modAccount_held _ ha]
  exact State.modAccount_held _ hb'

theorem State.fuelMoved_receiver : (s.fuelMoved sv x q a b).account? x = some (fuelGot b q) :=
  State.account?_setAccount ..

theorem State.fuelMoved_sender (hne : sv ≠ x) : (s.fuelMoved sv x q a b).account? sv = some (fuelSent a q) :=
  (State.account?_setAccount_ne _ _ _ _ hne).trans (State.account?_setAccount ..)

/-- The checks of R116 passed. -/
theorem transferStatus_takes {h : Option Nat} (hsv : sv ≤ 511) (hx : x ≤ 511) (hne : sv ≠ x)
    (ha : s.account? sv = some a) (hb : s.account? x = some b) (had : a.state ≠ .damaged) (hacls : a.cls = .service)
    (hbd : b.state ≠ .damaged) (hvisit : h.isSome = true → s.visitOf x = none) (hq : 0 < q)
    (hcarried : q ≤ a.carried.getD 0) (hfault : s.memoryFault = false) (hfree : 0 < s.log.free) :
    transferStatus sv x q h s = none := by
  have hnumbers : ¬ (511 < sv ∨ 511 < x) := by omega
  have hstates : ¬ (a.state = .damaged ∨ a.cls ≠ .service ∨ b.state = .damaged ∨ sv = x) := by
    simp [had, hacls, hbd, hne]
  have hfree' : ¬ (h.isSome = true ∧ (s.visitOf x).isSome = true) := fun ⟨hsome, hv⟩ => by
    rw [hvisit hsome] at hv; cases hv
  have hquantity : ¬ (q = 0 ∨ a.carried.getD 0 < q) := by omega
  rw [transferStatus, ha, hb]
  dsimp only
  rw [if_neg hnumbers, if_neg hstates, if_neg hfree', if_neg hquantity, if_neg (by simp [hfault]),
    if_neg (by omega)]

end

/-- The record of a transfer (R117). -/
def transferBody (p : PortId) (sv x q : Nat) (a : Account) (reading : Option (Nat × HourOutcome))
    (rate : Option Nat) : RecordBody :=
  .transfer
    { service := sv, machine := x, quantity := q, carriedAfter := a.carried.getD 0 - q, port := p
      reading := reading, rate := rate }

/-- A transfer that passes its checks: the fuel moves, the reading is judged, the record is written (R117). -/
theorem answerFieldTransfer_takes {s : State} {sv x q : Nat} {a b : Account} {h : Option Nat} (p : PortId)
    (hok : transferStatus sv x q h s = none) (hne : sv ≠ x) (ha : s.account? sv = some a)
    (hb : s.account? x = some b) :
    answerFieldTransfer p sv x q h s =
      let r := transferReading x h (s.fuelMoved sv x q a b)
      okWith (.transfer r.1.log.ticket (a.carried.getD 0 - q) r.2.1)
        (writeDirect (transferBody p sv x q a (h.bind fun h => r.2.1.map fun o => (h, o)) r.2.2) r.1) := by
  rw [answerFieldTransfer, hok]
  dsimp only
  rw [moveFuel_held hne ha hb, State.fuelMoved_sender hne]
  rfl

/-- A reading accepted with hours between closes the burn interval of a machine account (R109). -/
theorem transferReading_closes {s : State} {x h d : Nat} {b : Account} (hb : s.account? x = some b)
    (hj : judgeReading s.clock b.meter b.rollover b.lastTime h = .accepted d) (hd : 0 < d) (hcls : b.cls ≠ .service) :
    ∃ u, transferReading x (some h) s = (u, some (.accepted d), some (burnRate b.pending d)) ∧
      s.WritesAccount x (burnClosed (readAs b h d s.clock) d) u := by
  obtain ⟨u, hu, hw⟩ := takeReading_accepted (n := x) hj
  refine ⟨_, ?_, hw.trans (closeBurn_writes d hw.account?)⟩
  have hcloses : ¬ (d = 0 ∨ b.cls = .service) := not_or.mpr ⟨by omega, hcls⟩
  unfold transferReading
  simp only [hb, hu]
  exact if_neg hcloses

/-- Settles O32: without a reading a whole state; with one, the two accounts and the record, all else standing. -/
theorem transfersMoveFuel : Obligations.TransfersMoveFuel := by
  intro s p sv x q h a b htakes hsv hx hne ha hb had hacls hbd hvisit hq hcarried hfault hfree
  have hok := transferStatus_takes hsv hx hne ha hb had hacls hbd hvisit hq hcarried hfault hfree
  have hanswer := answerFieldTransfer_takes p hok hne ha hb
  refine ⟨fun hnone => ?_, fun reading d hsome hj hd hcls => ?_⟩
  · subst hnone
    exact command_does htakes hanswer (judgeSpace_mem _)
  · subst hsome
    obtain ⟨u, hu, hw⟩ := transferReading_closes (State.fuelMoved_receiver (s := s) (sv := sv) (q := q) (a := a)) hj hd
      hcls
    rw [hu] at hanswer
    dsimp only [okWith] at hanswer
    rw [hw.log] at hanswer
    have houtside (body : RecordBody) : (writeDirect body u).outside = s.outside :=
      (writeDirect_outside ..).trans hw.outside
    have hstanding (body : RecordBody) : (writeDirect body u).standing = s.standing :=
      (judgeSpace_standing _).trans hw.standing
    obtain ⟨m, hm⟩ := command_ends htakes hanswer (mem_of_outside (houtside _))
    refine ⟨_, _, hm, steady_of_fixed (fixed_of_standing (houtside _) (hstanding _) :), beginReply_told ..,
      ?_, (writeDirect_account? ..).trans hw.account?, rfl, rfl, rfl, rfl, rfl, ?_, ?_, ?_⟩
    · exact (writeDirect_account? ..).trans ((hw.account?_ne hne).trans (State.fuelMoved_sender hne))
    · refine (writeDirect_held ..).trans ?_
      rw [State.now, hw.log, hw.clock]
      rfl
    · exact (judgeSpace_points _).trans hw.points
    · exact (judgeSpace_tanks _).trans hw.tanks

end Sys2Proof.Machine

/-! PROOFS. ACCOUNT BAR: what it does to each point and island it reaches, and what it leaves alone (O28). -/

namespace Sys2Proof.Machine

/-! ## An action made for each number -/

theorem forEach_succ (n : Nat) (f : Nat → State → State) (s : State) :
    forEach (n + 1) f s = f (n + 1) (forEach n f s) := by
  simp [forEach, numbers, List.range_succ]

/-- Where each step changes one object by its number, the whole changes each object once. -/
theorem forEach_at {β : Type} {g : State → β} {c : β → β} {f : Nat → State → State} {j : Nat}
    (hat : ∀ s, g (f j s) = c (g s)) (hne : ∀ i s, i ≠ j → g (f i s) = g s) (n : Nat) (s : State) :
    g (forEach n f s) = if 1 ≤ j ∧ j ≤ n then c (g s) else g s := by
  induction n with
  | zero => rw [if_neg (by omega)]; rfl
  | succ n ih =>
    rw [forEach_succ]
    by_cases hj : j = n + 1
    · subst hj
      rw [hat, ih, if_neg (by omega), if_pos (by omega)]
    · rw [hne _ _ (Ne.symm hj), ih]
      by_cases hrange : 1 ≤ j ∧ j ≤ n
      · rw [if_pos hrange, if_pos (by omega)]
      · rw [if_neg hrange, if_neg (by omega)]

/-! ## The bar and the points: grants in AUTHORIZED are dropped (R58) -/

/-- A point whose grant has been dropped (R57). -/
def Point.dropped (d : Point) : Point := { d with state := .idle, grant := none, slot := 0, authLeft := none }

/-- A point as the bar of an account leaves it (R58). -/
def Point.barred (a : Nat) (d : Point) : Point :=
  if d.state = .authorized ∧ d.grant.bind (fun g => g.account) = some a then d.dropped else d

theorem dropFor_points (i detail : Nat) (s : State) :
    (dropFor i detail s).points = s.points.set i (s.point i).dropped := by
  have hpoints (n : Nat) (u : State) : (releaseSlot n u).point i = u.point i := by simp [State.point]
  simp [dropFor, dropGrant, State.modPoint, State.modTank, hpoints, Point.dropped]

/-- A point that the bay does not have stands as at a cold start. -/
theorem point_of_not_range {s : State} {i : Nat} (h : ¬ (1 ≤ i ∧ i ≤ 12)) : s.point i = Point.cold :=
  Bank.getD_of_not_range _ _ h

theorem grantsOn_contains {s : State} {a i : Nat} :
    (s.grantsOn a).contains i = true ↔ (1 ≤ i ∧ i ≤ 12) ∧ (s.point i).grant.bind (fun g => g.account) = some a := by
  simp only [State.grantsOn, List.contains_iff_mem, List.mem_filter, mem_numbers]
  refine and_congr_right fun _ => ?_
  cases (s.point i).grant <;> simp

/-- The bar at a point drops its grant, or leaves all as it is. -/
theorem barPoint_cases (a i : Nat) (s : State) :
    (s.point i).barred a = (s.point i).dropped ∧ (1 ≤ i ∧ i ≤ 12) ∧ barPoint a i s = dropFor i 3 s ∨
      (s.point i).barred a = s.point i ∧ barPoint a i s = s := by
  by_cases hi : 1 ≤ i ∧ i ≤ 12
  · by_cases h : (s.point i).state = .authorized ∧ (s.point i).grant.bind (fun g => g.account) = some a
    · exact .inl ⟨if_pos h, hi, if_pos ⟨h.1, grantsOn_contains.mpr ⟨hi, h.2⟩⟩⟩
    · exact .inr ⟨if_neg h, if_neg fun ⟨hs, hg⟩ => h ⟨hs, (grantsOn_contains.mp hg).2⟩⟩
  · have hcold : (s.point i).state ≠ .authorized := by rw [point_of_not_range hi]; decide
    exact .inr ⟨if_neg fun h => hcold h.1, if_neg fun h => hcold h.1⟩

theorem barPoint_point_same (a i : Nat) (s : State) : (barPoint a i s).point i = (s.point i).barred a := by
  obtain ⟨hp, hi, h⟩ | ⟨hp, h⟩ := barPoint_cases a i s
  · rw [h, hp, State.point, dropFor_points, Bank.getD_set_same _ _ _ hi]
  · rw [h, hp]

theorem barPoint_point_ne (a : Nat) {i j : Nat} (hne : i ≠ j) (s : State) : (barPoint a i s).point j = s.point j := by
  obtain ⟨-, -, h⟩ | ⟨-, h⟩ := barPoint_cases a i s
  · rw [h, State.point, dropFor_points, Bank.getD_set_ne _ _ _ hne.symm]; rfl
  · rw [h]

/-- What the drop of a grant keeps, the bar at a point keeps. -/
theorem barPoint_keeps {β : Type} {g : State → β} (h : ∀ i s, g (dropFor i 3 s) = g s) (a i : Nat) (s : State) :
    g (barPoint a i s) = g s := by
  obtain ⟨-, -, hb⟩ | ⟨-, hb⟩ := barPoint_cases a i s
  · rw [hb, h]
  · rw [hb]

/-- A state without what the drop of a grant touches: the points, the commitments of the tanks, the reservations and the
armed mark of the log, and the ports. -/
def State.besideGrants (s : State) : State :=
  { s with
    points := State.reset.points, tanks := State.reset.tanks, log := ⟨s.log.held, [], s.log.ticket, true⟩
    ports := State.reset.ports }

@[simp] theorem raise_besideGrants (kind : NoticeKind) (subject : SubjectKind) (number : Nat) (first second : Int)
    (s : State) : (raise kind subject number first second s).besideGrants = s.besideGrants :=
  (congrArg State.besideGrants (raise_portless kind subject number first second s) :)

@[simp] theorem judgeSpace_besideGrants (s : State) : (judgeSpace s).besideGrants = s.besideGrants := by
  unfold judgeSpace
  split
  · dsimp only
    rw [raise_eq]
    rfl
  · split <;> rfl

@[simp] theorem dropFor_besideGrants (i detail : Nat) (s : State) :
    (dropFor i detail s).besideGrants = s.besideGrants := by
  have hslot (n : Nat) (u : State) : (releaseSlot n u).besideGrants = u.besideGrants := judgeSpace_besideGrants _
  exact (raise_besideGrants ..).trans (hslot _ (s.modTank (s.point i).settings.tank (removeCommitment i)))

/-- What memory keeps of the tanks. -/
def State.tanksKept (s : State) : Bank TankKept 8 := s.tanks.map fun k => k.toTankKept

theorem Bank.map_set_same {α β : Type} {n : Nat} {f : α → β} {b : Bank α n} {k : Nat} {a d : α}
    (h : f a = f (b.getD k d)) : (b.set k a).map f = b.map f := by
  by_cases hk : k ≤ n
  · rw [Bank.map_set, h, ← Bank.map_set, Bank.set_getD _ _ _ hk]
  · rw [Bank.set_of_not_range _ _ (by omega)]

@[simp] theorem dropFor_tanksKept (i detail : Nat) (s : State) : (dropFor i detail s).tanksKept = s.tanksKept := by
  have htanks : (dropFor i detail s).tanks =
      s.tanks.set (s.point i).settings.tank (removeCommitment i (s.tank (s.point i).settings.tank)) := by
    simp [dropFor, dropGrant, releaseSlot, State.modPoint, State.modTank]
  rw [State.tanksKept, htanks]
  exact Bank.map_set_same (d := Tank.cold) rfl

/-! ## The bar and the visits (R97, R98) -/

/-- An account without what the end of a visit may change of it: its pending fuel and last burn rate (R109). -/
def besideBurn (a : Account) : Account := { a with pending := 0, lastRate := none }

/-- What a visit of account `a` at an island leaves alone when it ends. -/
structure BesideVisit where
  rest : State
  kept : IslandKept
  accounts : Nat → Option Account

/-- That part of a state. -/
def State.besideVisit (a i : Nat) (s : State) : BesideVisit :=
  ⟨{ s with accounts := [], islands := s.islands.set i Island.cold, ports := State.reset.ports },
    (s.island i).toIslandKept, fun b => if b = a then (s.account? b).map besideBurn else s.account? b⟩

theorem State.setIsland_besideVisit {s : State} {i : Nat} {d : Island} (a : Nat)
    (h : d.toIslandKept = (s.island i).toIslandKept) : (s.setIsland i d).besideVisit a i = s.besideVisit a i := by
  have hkept : ((s.setIsland i d).island i).toIslandKept = (s.island i).toIslandKept :=
    Bank.getD_set_rel (R := fun x y : Island => y.toIslandKept = x.toIslandKept) (fun _ => rfl) h i
  have hislands : (s.islands.set i d).set i Island.cold = s.islands.set i Island.cold := Bank.set_set ..
  unfold State.besideVisit
  rw [hkept]
  dsimp only [State.setIsland]
  rw [hislands]
  rfl

@[simp] theorem State.modIsland_besideVisit {s : State} {i : Nat} {f : Island → Island} (a : Nat)
    (h : ∀ d, (f d).toIslandKept = d.toIslandKept) : (s.modIsland i f).besideVisit a i = s.besideVisit a i :=
  State.setIsland_besideVisit a (h _)

@[simp] theorem raise_besideVisit (a i : Nat) (kind : NoticeKind) (subject : SubjectKind) (number : Nat)
    (first second : Int) (s : State) :
    (raise kind subject number first second s).besideVisit a i = s.besideVisit a i :=
  (congrArg (State.besideVisit a i) (raise_portless kind subject number first second s) :)

theorem State.WritesAccount.besideVisit {s u : State} {a : Nat} {b c : Account} (h : s.WritesAccount a b u)
    (hc : s.account? a = some c) (hb : besideBurn b = besideBurn c) (i : Nat) :
    u.besideVisit a i = s.besideVisit a i := by
  have haccounts : (u.besideVisit a i).accounts = (s.besideVisit a i).accounts := by
    funext n
    simp only [State.besideVisit]
    split
    next hn => rw [hn, h.account?, hc, Option.map_some, Option.map_some, hb]
    next hn => rw [h.account?_ne hn]
  have hrest : ({ u with accounts := s.accounts } : State).besideVisit a i = s.besideVisit a i :=
    (congrArg (fun v : State => ({ v with accounts := s.accounts } : State).besideVisit a i) h :)
  rw [← hrest] at haccounts ⊢
  exact congrArg (fun f => { u.besideVisit a i with accounts := f }) haccounts

@[simp] theorem closeBurn_besideVisit (a i d : Nat) (s : State) :
    (closeBurn a d s).besideVisit a i = s.besideVisit a i := by
  cases hc : s.account? a with
  | none => rw [closeBurn, hc]
  | some c => exact (closeBurn_writes d hc).besideVisit hc rfl i

@[simp] theorem accountVisitEnded_besideVisit (a i : Nat) (hour : HourState) (delta : Option Nat) (s : State) :
    (accountVisitEnded a hour delta s).besideVisit a i = s.besideVisit a i := by
  unfold accountVisitEnded
  repeat' split
  all_goals simp

@[simp] theorem lineService_besideVisit (a i : Nat) (s : State) :
    (lineService i s).besideVisit a i = s.besideVisit a i := by
  unfold lineService
  dsimp only
  split
  · rfl
  · exact State.setIsland_besideVisit a rfl
  · split
    · exact State.setIsland_besideVisit a rfl
    · rfl

@[simp] theorem requestDisplay_besideVisit (a i : Nat) (code : DisplayCode) (arg : Nat) (s : State) :
    (requestDisplay i code arg s).besideVisit a i = s.besideVisit a i := by
  unfold requestDisplay
  dsimp only
  split
  · rfl
  · exact (lineService_besideVisit ..).trans (State.setIsland_besideVisit a rfl)

@[simp] theorem farewell_besideVisit (a i : Nat) (v : Visit) (reason : VisitEnd) (atTag : Bool) (s : State) :
    (farewell i v reason atTag s).besideVisit a i = s.besideVisit a i := by
  unfold farewell
  repeat' split
  all_goals simp

theorem endVisit_besideVisit {i : Nat} {v : Visit} {s : State} (hv : (s.island i).visit = some v)
    (reason : VisitEnd) (atTag : Bool) :
    (endVisit i reason atTag s).besideVisit v.account i = s.besideVisit v.account i := by
  rw [endVisit, hv]
  simp

/-- A visit that has ended is gone. -/
theorem endVisit_visit {i : Nat} (hi : 1 ≤ i ∧ i ≤ 4) (reason : VisitEnd) (atTag : Bool) (s : State) :
    ((endVisit i reason atTag s).island i).visit = none := by
  unfold endVisit
  split
  next h => exact h
  next => simp [State.modIsland, hi]

/-- A visit as the bar of an account leaves it: gone, or ENDING while a dispense of it is active (R98). -/
def barredVisit (a : Nat) : Option Visit → Option Visit
  | none => none
  | some v =>
    if v.account ≠ a then some v
    else if v.busy then some { v with phase := .ending, idle := none, endReason := some .barred }
    else none

theorem island_of_not_range {s : State} {i : Nat} (h : ¬ (1 ≤ i ∧ i ≤ 4)) : s.island i = Island.cold :=
  Bank.getD_of_not_range _ _ h

theorem barVisit_visit (a i : Nat) (s : State) :
    ((barVisit a i s).island i).visit = barredVisit a (s.island i).visit := by
  unfold barVisit
  cases hv : (s.island i).visit with
  | none => exact hv
  | some v =>
    have hi : 1 ≤ i ∧ i ≤ 4 := by
      refine Decidable.byContradiction fun h => ?_
      rw [island_of_not_range h] at hv
      cases hv
    dsimp only [barredVisit]
    split
    · exact hv
    · split
      · simp [State.modIsland, hi]
      · exact endVisit_visit hi ..

theorem barVisit_besideVisit (a i : Nat) (s : State) : (barVisit a i s).besideVisit a i = s.besideVisit a i := by
  unfold barVisit
  split
  · rfl
  next v hv =>
    split
    · rfl
    next ha =>
      obtain rfl : v.account = a := Decidable.not_not.mp ha
      split
      · exact State.modIsland_besideVisit _ fun _ => rfl
      · exact endVisit_besideVisit hv ..

theorem island_of_besideVisit {s u : State} {a i : Nat} (h : u.besideVisit a i = s.besideVisit a i) {j : Nat}
    (hj : j ≠ i) : u.island j = s.island j := by
  have hget : (u.islands.set i Island.cold).getD j Island.cold = (s.islands.set i Island.cold).getD j Island.cold :=
    congrArg (fun b : BesideVisit => b.rest.islands.getD j Island.cold) h
  rw [Bank.getD_set_ne _ _ _ hj, Bank.getD_set_ne _ _ _ hj] at hget
  exact hget

/-- What the visits of account `a` leave alone when they end, whichever their islands. -/
structure BesideVisits where
  rest : State
  kept : Nat → IslandKept
  accounts : Nat → Option Account

/-- That part of a state. -/
def State.besideVisits (a : Nat) (s : State) : BesideVisits :=
  ⟨{ s with accounts := [], islands := State.reset.islands, ports := State.reset.ports },
    fun j => (s.island j).toIslandKept, fun b => if b = a then (s.account? b).map besideBurn else s.account? b⟩

theorem besideVisits_of_besideVisit {s u : State} {a i : Nat} (h : u.besideVisit a i = s.besideVisit a i) :
    u.besideVisits a = s.besideVisits a := by
  have hkept : (u.besideVisits a).kept = (s.besideVisits a).kept := by
    funext j
    by_cases hj : j = i
    · subst hj
      exact congrArg BesideVisit.kept h
    · exact congrArg Island.toIslandKept (island_of_besideVisit h hj)
  have hrest : (u.besideVisits a).rest = (s.besideVisits a).rest :=
    congrArg (fun b : BesideVisit => { b.rest with islands := State.reset.islands }) h
  exact BesideVisits.mk.injEq .. ▸ ⟨hrest, hkept, congrArg BesideVisit.accounts h⟩

/-- A figure that is read without accounts, islands and ports stands through the end of the visits. -/
theorem rest_of_besideVisits {β : Type} {s u : State} {a : Nat} (h : u.besideVisits a = s.besideVisits a)
    (g : State → β)
    (hg : ∀ v : State, g { v with accounts := [], islands := State.reset.islands, ports := State.reset.ports } = g v) :
    g u = g s :=
  (hg u).symm.trans ((congrArg (fun b : BesideVisits => g b.rest) h :).trans (hg s))

theorem standing_of_besideVisits {s u : State} {a : Nat} (h : u.besideVisits a = s.besideVisits a) :
    u.standing = s.standing :=
  (congrArg (fun b : BesideVisits => { b.rest.standing with islands := b.kept }) h :)

theorem account?_ne_of_besideVisits {s u : State} {a b : Nat} (h : u.besideVisits a = s.besideVisits a)
    (hb : b ≠ a) : u.account? b = s.account? b := by
  have haccounts := congrFun (congrArg BesideVisits.accounts h) b
  simpa only [State.besideVisits, if_neg hb] using haccounts

/-- The end of its visit may change an account's pending fuel and last burn rate alone. -/
theorem account?_of_besideVisits {s u : State} {a : Nat} {c : Account} (h : u.besideVisits a = s.besideVisits a)
    (hc : s.account? a = some c) : ∃ d, u.account? a = some d ∧ besideBurn d = besideBurn c := by
  have haccounts := congrFun (congrArg BesideVisits.accounts h) a
  simp only [State.besideVisits, if_true, hc, Option.map_some] at haccounts
  exact Option.map_eq_some_iff.mp haccounts

/-! ## ACCOUNT BAR (R118) -/

/-- The state after every point has been told of the bar of an account (R58). -/
@[irreducible] def State.pointsTold (s : State) (a : Nat) : State := forEach 12 (barPoint a) s

/-- The state after every point, and then every island, has been told of the bar of an account (R118). -/
@[irreducible] def State.barTold (s : State) (a : Nat) : State := forEach 4 (barVisit a) (s.pointsTold a)

section
variable (s : State) (a : Nat)

theorem pointsTold_keeps {β : Type} {g : State → β} (h : ∀ i s, g (dropFor i 3 s) = g s) :
    g (s.pointsTold a) = g s := by
  unfold State.pointsTold
  exact forEach_keeps (barPoint_keeps h a) 12 s

/-- A figure that is read without what the drop of a grant touches stands through the telling of the points. -/
theorem pointsTold_rest {β : Type} (g : State → β) (hg : ∀ v : State, g v.besideGrants = g v) :
    g (s.pointsTold a) = g s :=
  pointsTold_keeps s a fun i v => (hg _).symm.trans ((congrArg g (dropFor_besideGrants i 3 v)).trans (hg v))

/-- Each point is changed once, as its own grant calls for. -/
theorem pointsTold_point (i : Nat) :
    (s.pointsTold a).point i = if 1 ≤ i ∧ i ≤ 12 then (s.point i).barred a else s.point i := by
  unfold State.pointsTold
  exact forEach_at (g := fun s => s.point i) (barPoint_point_same a i) (fun _ s hne => barPoint_point_ne a hne s) 12 s

theorem barTold_besideVisits : (s.barTold a).besideVisits a = (s.pointsTold a).besideVisits a := by
  unfold State.barTold
  exact forEach_keeps (fun i s => besideVisits_of_besideVisit (barVisit_besideVisit a i s)) 4 _

/-- What both the points and the visits leave alone. -/
theorem barTold_rest {β : Type} (g : State → β)
    (hv : ∀ v : State, g { v with accounts := [], islands := State.reset.islands, ports := State.reset.ports } = g v)
    (hg : ∀ v : State, g v.besideGrants = g v) : g (s.barTold a) = g s :=
  (rest_of_besideVisits (barTold_besideVisits s a) g hv).trans (pointsTold_rest s a g hg)

theorem barTold_stations : (s.barTold a).stations = s.stations :=
  barTold_rest s a State.stations (fun _ => rfl) fun _ => rfl

theorem barTold_zones : (s.barTold a).zones = s.zones := barTold_rest s a State.zones (fun _ => rfl) fun _ => rfl

theorem barTold_bay : (s.barTold a).bay = s.bay := barTold_rest s a State.bay (fun _ => rfl) fun _ => rfl

theorem barTold_held : (s.barTold a).log.held = s.log.held :=
  barTold_rest s a (fun u => u.log.held) (fun _ => rfl) fun _ => rfl

theorem barTold_mem : (s.barTold a).mem = s.mem := barTold_rest s a State.mem (fun _ => rfl) fun _ => rfl

theorem barTold_tanksKept : (s.barTold a).tanksKept = s.tanksKept :=
  (rest_of_besideVisits (barTold_besideVisits s a) State.tanksKept fun _ => rfl).trans
    (pointsTold_keeps s a (dropFor_tanksKept · 3))

theorem barTold_fixed : (s.barTold a).fixed = s.fixed :=
  fixed_of_standing (barTold_rest s a State.outside (fun _ => rfl) fun _ => rfl)
    ((standing_of_besideVisits (barTold_besideVisits s a)).trans (pointsTold_keeps s a (dropFor_standing · 3)))

theorem barTold_point (i : Nat) :
    (s.barTold a).point i = if 1 ≤ i ∧ i ≤ 12 then (s.point i).barred a else s.point i :=
  (rest_of_besideVisits (barTold_besideVisits s a) (fun u => u.point i) fun _ => rfl).trans (pointsTold_point s a i)

/-- Each island is changed once, as its own visit calls for. -/
theorem barTold_visit (j : Nat) :
    ((s.barTold a).island j).visit =
      if 1 ≤ j ∧ j ≤ 4 then barredVisit a (s.island j).visit else (s.island j).visit := by
  rw [← pointsTold_rest s a (fun u => u.island j) fun _ => rfl]
  unfold State.barTold
  exact forEach_at (g := fun s => (s.island j).visit) (barVisit_visit a j)
    (fun i s hne => congrArg Island.visit (island_of_besideVisit (barVisit_besideVisit a i s) hne.symm)) 4 _

variable {s a}

theorem barTold_account?_ne {b : Nat} (hb : b ≠ a) : (s.barTold a).account? b = s.account? b :=
  (account?_ne_of_besideVisits (barTold_besideVisits s a) hb).trans
    (pointsTold_rest s a (fun u => u.account? b) fun _ => rfl)

theorem barTold_account? {c : Account} (hc : s.account? a = some c) :
    ∃ d, (s.barTold a).account? a = some d ∧ besideBurn d = besideBurn c :=
  account?_of_besideVisits (barTold_besideVisits s a)
    ((pointsTold_rest s a (fun u => u.account? a) fun _ => rfl).trans hc)

end

theorem Point.barred_of_grant {a : Nat} {d : Point} {g : Grant} (hs : d.state = .authorized) (hg : d.grant = some g)
    (ha : g.account = some a) : d.barred a = d.dropped := if_pos ⟨hs, by rw [hg]; exact ha⟩

theorem Point.barred_of_state {d : Point} (a : Nat) (hs : d.state ≠ .authorized) : d.barred a = d :=
  if_neg fun h => hs h.1

theorem answerAccountBar_active {s : State} {a : Nat} {c : Account} (ha : a ≤ 511) (hc : s.account? a = some c)
    (hs : c.state = .active) :
    answerAccountBar a s = ((s.setAccount a { c with state := .barred }).barTold a, ⟨.ok, .empty⟩) := by
  rw [answerAccountBar, atAccount_held _ ha hc, hs]
  unfold State.barTold State.pointsTold
  dsimp only [okay]

/-- Settles O28: the bar told to each point and each island once, and what both leave alone. -/
theorem barReachesGrantsAndVisit : Obligations.BarReachesGrantsAndVisit := by
  intro s p a c htakes ha hc
  refine ⟨fun hs => ?_, fun hs => takes_answers htakes ?_, fun hs => takes_answers htakes ?_⟩
  · let w := s.setAccount a { c with state := .barred }
    obtain ⟨m, hm⟩ := command_ends htakes (answerAccountBar_active ha hc hs) (barTold_mem w a)
    obtain ⟨d, hd, hburn⟩ := barTold_account? (State.account?_setAccount s a { c with state := .barred })
    have hkept : d.state = .barred ∧ d.meter = c.meter ∧ d.fuelTotal = c.fuelTotal :=
      ⟨(congrArg Account.state hburn :), (congrArg Account.meter hburn :), (congrArg Account.fuelTotal hburn :)⟩
    refine ⟨_, hm, steady_of_fixed (barTold_fixed w a :), beginReply_told .., ⟨d, hd, hkept⟩, fun b hb => ?_,
      fun i g h1 h12 hi hg hga => ?_, fun i hi => ?_, fun j v h1 h4 hv hva => ?_, barTold_tanksKept w a,
      barTold_stations w a, barTold_zones w a, barTold_bay w a, barTold_held w a⟩
    · exact (barTold_account?_ne hb).trans (State.account?_setAccount_ne _ _ _ _ hb)
    · have hpoint : (w.barTold a).point i = (s.point i).dropped :=
        (barTold_point w a i).trans ((if_pos ⟨h1, h12⟩).trans (Point.barred_of_grant hi hg hga))
      exact ⟨congrArg Point.state hpoint, congrArg Point.grant hpoint⟩
    · refine (barTold_point w a i).trans ?_
      split
      · exact Point.barred_of_state a hi
      · rfl
    · have hvisit : ((w.barTold a).island j).visit = barredVisit a (some v) :=
        (barTold_visit w a j).trans ((if_pos ⟨h1, h4⟩).trans (congrArg (barredVisit a) hv))
      rw [barredVisit, if_neg (by simp [hva])] at hvisit
      exact ⟨fun hidle => hvisit.trans (if_neg (by simp [hidle])), fun hbusy => hvisit.trans (if_pos hbusy)⟩
  · rw [answerAccountBar, atAccount_held _ ha hc, hs]
    rfl
  · rw [answerAccountBar, atAccount_held _ ha hc, hs]
    rfl

end Sys2Proof.Machine
